-- ==== Sys2Proof/Word.lean ====
section
/-! DEFINITION. The numbers the ports carry: bytes, two-byte and four-byte values, and the container number. -/

namespace Sys2Proof

/-- One byte of the operations port (R189). -/
abbrev Byte := BitVec 8

/-- A two-byte value (R192: sent most significant byte first). -/
abbrev Half := BitVec 16

/-- A four-byte value, a card number for instance (R65). -/
abbrev Quad := BitVec 32

/-- A container, known by its column address 0..31 (Chapter 1). -/
abbrev Box := Fin 32

end Sys2Proof
end

