-- ==== Sys2Proof/Syntax.lean ====
section
/-! DEFINITION. The commands of the block: one constructor of `Instr` for each row of the table of
operations and events. Operands are carried as they arrive, before any check. -/

namespace Sys2Proof

/-- The five fractions, in the order of their codes (R203). -/
inductive Fraction where
  | residual | paper | packaging | glass | organic
deriving DecidableEq, Repr

/-- The hatch state an uplink reports (R26). -/
inductive HatchState where
  | closed | opening | opened | closing | jammed
deriving DecidableEq, Repr

/-- The level field of an uplink that carries one (R26). -/
inductive LevelReading where
  | echoLost
  | height (mm : BitVec 12)
deriving DecidableEq, Repr

/-- The logical fields of a complete uplink as received (R26), less the check byte. -/
structure Uplink where
  echo : Box
  hatch : HatchState
  drum : Byte
  card : Option Quad
  level : Option LevelReading
deriving DecidableEq, Repr

/-- What the receiver saw of the addressed column within a slot (R24): no uplink began; one began
and had not ended at the end of the slot; or a complete one, with whether its check byte matches. -/
inductive SlotRx where
  | nothing
  | unfinished
  | complete (u : Uplink) (checkMatches : Bool)
deriving DecidableEq, Repr

/-- The level of the inlet line as seen by the receiver (R38, R42). -/
inductive LineLevel where
  | idle | active
deriving DecidableEq, Repr

/-- The outcome field of a Lift Report (R178); `other` is any value that is none of the three (R168). -/
inductive LiftCode where
  | emptied | partLifted | blocked | other
deriving DecidableEq, Repr

/-- The configuration values Write Container Config carries, in the order of R1 (R2, R200). -/
structure ContainerParams where
  present : Byte
  fraction : Byte
  cluster : Byte
  capacity : Half
  depth : Half
  drum : Byte
  charge : Byte
  tOrder : Byte
  tClose : Byte
  tReopen : Byte
  omax : Half
  kmax : Byte
  vmin : Half
  residual : Half
  fDoubt : Byte
  fBlind : Byte
  rClean : Byte
  sBlind : Byte
deriving DecidableEq, Repr

/-- One curfew window as carried: start and end minute of the day (R19, R201). -/
structure WindowParams where
  start : Half
  stop : Half
deriving DecidableEq, Repr

/-- The district settings as Write District Settings carries them, in the order of R201. -/
structure DistrictParams where
  period : Byte
  rollover : Half
  curfew : Vector WindowParams 5
  plans : Vector Byte 16
  nLost : Byte
  tInact : Half
  tOw : Byte
  tDep : Byte
  tCl : Byte
  tQ : Byte
  tDock : Half
deriving DecidableEq, Repr

/-- What Insert Card and Update Card carry after the card number (R67). -/
structure CardParams where
  household : Half
  status : Byte
  plan : Byte
  clusters : Byte
  fractions : Byte
deriving DecidableEq, Repr

/-- The commands and events of the DN32, one constructor per row of the table. An operations command
carries `len`, the length byte of its frame (R189, R191); a vehicle message carries the sender's id
and `fits`, whether the frame carries exactly the parameters of its type (R168). -/
inductive Instr where
  | powerOnReset
  | selectFall
  | frameEnd (lengthComplete : Bool)
  | unknownCommand (len code : Byte)
  | queuedCommandStart
  | commandCompletion
  | noOp (len : Byte)
  | readDistrictSettings (len : Byte)
  | writeDistrictSettings (len : Byte) (p : DistrictParams)
  | readContainerConfig (len c : Byte)
  | writeContainerConfig (len c : Byte) (p : ContainerParams)
  | start (len c : Byte)
  | retire (len c : Byte)
  | setClock (len : Byte) (minute week : Half)
  | readClock (len : Byte)
  | triggerRollover (len : Byte)
  | insertCard (len : Byte) (card : Quad) (p : CardParams)
  | updateCard (len : Byte) (card : Quad) (p : CardParams)
  | removeCard (len : Byte) (card : Quad)
  | readCard (len : Byte) (card : Quad) (mode : Byte)
  | peekLog (len n : Byte)
  | releaseLog (len n : Byte)
  | readContainerStatus (len c : Byte)
  | resetEstimate (len c : Byte) (value : Half)
  | adjustEstimate (len c : Byte) (amount : Half)
  | postOrder (len c priority : Byte) (label : Half) (oneShot : Byte)
  | abortOrder (len : Byte) (number : Half)
  | readOrders (len first : Byte)
  | readHistory (len n : Byte)
  | serviceHoldOn (len c : Byte)
  | serviceHoldOff (len c : Byte)
  | releaseOrphan (len c : Byte)
  | clearFault (len c : Byte)
  | busQuiet (len : Byte)
  | busActive (len : Byte)
  | readBusFlags (len : Byte)
  | clearBusFlags (len requests : Byte)
  | readAttention (len : Byte)
  | clearAttention (len : Byte) (requests : Half)
  | maskAttention (len : Byte) (enables : Half)
  | readDenialCounters (len requests : Byte)
  | serviceReset (len : Byte)
  | minuteTick
  | slotEnd (rx : SlotRx)
  | lineEdge (level : LineLevel) (heldMicros : Quad) (transmitting : Bool)
  | wakeTfElapsed
  | wakeWindowExpiry
  | stuckLineDetected
  | blockedRecovery
  | tInactExpiry
  | denialDisplayExpiry (c : Box)
  | tOwExpiry (c : Box)
  | tDepExpiry (c : Box)
  | tClExpiry (c : Box)
  | tQExpiry (c : Box)
  | tDockExpiry
  | vehicleFrameDiscarded
  | unknownMessage (vid : Half)
  | dock (fits : Bool) (vid : Half) (fractions : Byte)
  | refresh (fits : Bool) (vid : Half)
  | status (fits : Bool) (vid : Half)
  | undock (fits : Bool) (vid : Half)
  | claim (fits : Bool) (vid : Half) (c : Byte)
  | liftReport (fits : Bool) (vid : Half) (c : Byte) (outcome : LiftCode) (mass : Half)
  | release (fits : Bool) (vid : Half) (c : Byte)
  | deassertTimerExpiry
deriving DecidableEq, Repr

end Sys2Proof
end

