-- ==== Sys2Proof/Decode.lean ====
section
/-! DEFINITION. The commands that a word spells. -/

namespace Sys2Proof

/-- No row of the table of operations and events has bits, so no word spells a command. -/
def decodeTableWord (_nbits _w : Nat) : Option Instr := none

end Sys2Proof
end

