-- ==== Sys2Proof/Config.lean ====
section
/-! DEFINITION. The free values: what the manual leaves open, as constants without a body. -/

namespace Sys2Proof

/-- FREE VALUE (log entry 8). The manual does not say in which order several hatch cycles end at one
event (R42, R64), nor in which order several Offered orders are returned (R152). The model takes the
container with the lesser key first; the first argument is the number of the draw, the second the
container. DESIGN CHOICE of the form, the order itself is open. -/
opaque Config.endKey : Nat → Nat → Nat

/-- FREE VALUE (log entry 35). The manual does not say what a place of the card record storage holds once a record
has left it; this is that content, read as one number. The first argument counts the removals since the power-on
reset, the second is the place. DESIGN CHOICE of the form. -/
opaque Config.leftInPlace : Nat → Nat → Nat

/-- FREE VALUE (log entry 5). The manual gives the contents of every response, and the byte layout of
some; this is the byte string of response data whose layout it does not give. DESIGN CHOICE of the form. -/
opaque Config.unstatedBytes : (α : Type) → α → List Byte

end Sys2Proof
end

