-- ==== Sys2Proof/Machine/State.lean ====
section
/-! DEFINITION. The state of the DN32: every record, counter, flag, timer and output the manual names,
as plain data, with its power-on value. A timer is `none` while stopped and carries the length it was
started with while it runs (log entry 6). -/

namespace Sys2Proof.Machine

open Sys2Proof

/-! ## Names -/

/-- The operating state of a container (R12). -/
inductive OpState where
  | dormant | quiescing | held | inFault | fullClosed | opened
deriving DecidableEq, Repr

/-- The fault attribute (R10). -/
inductive FaultAttr where
  | none | columnLost | hatchJam
deriving DecidableEq, Repr

/-- The bus states (section 2.4). -/
inductive BusState where
  | active | woken | draining | quiet | blocked
deriving DecidableEq, Repr

/-- The remembered target of a Blocked bus (R42, R43). -/
inductive BusTarget where
  | active | quiet
deriving DecidableEq, Repr

/-- The steps of the wake qualifier (R38); `seeking n` has completed `n` phases, and the 50 ms window
runs exactly in it. `off` is "not running". -/
inductive Qualifier where
  | off | recovering | ready | seeking (phases : Nat)
deriving DecidableEq, Repr

/-- The eleven denial reasons, in the order of the checks (R72). -/
inductive DenialReason where
  | unknownCard | cardBlocked | wrongCluster | wrongFraction | outOfService | containerFull
  | curfew | busy | cardInUse | noAllowance | logFull
deriving DecidableEq, Repr

/-- The hatch command of a downlink (R25). -/
inductive HatchCommand where
  | keepClosed | openHatch | closeHatch
deriving DecidableEq, Repr

/-- The display code of a downlink (R25). -/
inductive DisplayCode where
  | idle | granted | denied (r : DenialReason) | outOfService
deriving DecidableEq, Repr

/-- The phases of a hatch cycle (R47). -/
inductive Phase where
  | granted | opened | deposited
deriving DecidableEq, Repr

/-- How a hatch cycle ends (R58). -/
inductive CycleOutcome where
  | deposit | noDeposit | cut | unconfirmed
deriving DecidableEq, Repr

/-- The T_cl of a standing close demand (R55, R56, R57). -/
inductive CloseTimer where
  | running (len : Nat) | held | spent
deriving DecidableEq, Repr

/-- The status of a card (R65). -/
inductive CardStatus where
  | active | suspended | lost
deriving DecidableEq, Repr

/-- The trust mode of an estimate (R129). -/
inductive TrustMode where
  | tracking | doubtful | blind
deriving DecidableEq, Repr

/-- Who asked for an order (R144). -/
inductive Origin where
  | operations | auto | vehicle
deriving DecidableEq, Repr

/-- Where an active order stands (R144). -/
inductive OrderState where
  | pending | offered | claimed
deriving DecidableEq, Repr

/-- How an order finishes (R159). -/
inductive OrderOutcome where
  | emptied | partLifted | failed | aborted | reset
deriving DecidableEq, Repr

/-- The cause of a Failed order (R162). -/
inductive FailCause where
  | blocked | linkLost
deriving DecidableEq, Repr

/-- The claim state of a hold (R170). -/
inductive ClaimState where
  | quiescing | held | heldForced
deriving DecidableEq, Repr

/-- The status codes of the operations port (R191). -/
inductive Status where
  | ok | okClamped | badCommand | badLength | notFound | duplicate | full | state | notHeld
deriving DecidableEq, Repr

/-- The statuses of the vehicle link (R168). -/
inductive LinkStatus where
  | ok | badMessage | dockBusy | notDocked | notStarted | wrongFraction | heldOther | noClaim | notHeld
deriving DecidableEq, Repr

/-- The states of the attention line (R198); the deassert timer runs exactly in `holding`. -/
inductive AttentionLine where
  | asserted | holding | released
deriving DecidableEq, Repr

/-- The level of the attention line, which is active low (R198). -/
inductive AttentionLevel where
  | low | high
deriving DecidableEq, Repr

/-- The ten attention items, in the order of their bits (R195, R203). -/
inductive Item where
  | powerOn | logHigh | containerFault | estimateBlind | wake | dock | undock | historyNew | lineStuck
  | lostCardSeen
deriving DecidableEq, Repr

/-- The six sticky bus flags, in the order of their request bits (R33, R203). -/
inductive BusFlag where
  | validSeen | garbledSeen | silentSeen | overrunSeen | wakeSeen | stuckSeen
deriving DecidableEq, Repr

/-! ## Records -/

/-- A point of the wall clock (R47, R78, R162). -/
structure Stamp where
  week : Nat
  minute : Nat
deriving DecidableEq, Repr

/-- The configuration fields of a container record (R1). -/
structure ContainerConfig where
  present : Bool := false
  fraction : Fraction := .residual
  cluster : Nat := 0
  capacity : Nat := 3000
  depth : Nat := 2400
  drum : Nat := 60
  charge : Nat := 1
  tOrder : Nat := 70
  tClose : Nat := 90
  tReopen : Nat := 80
  omax : Nat := 200
  kmax : Nat := 8
  vmin : Nat := 120
  residual : Nat := 20
  fDoubt : Nat := 3
  fBlind : Nat := 8
  rClean : Nat := 4
  sBlind : Nat := 16
deriving DecidableEq, Repr

/-- A container record (R1). -/
structure ContainerRec where
  config : ContainerConfig := {}
  started : Bool := false
  fault : FaultAttr := .none
  tally : Nat := 0
deriving DecidableEq, Repr

/-- A column's last uplink (R32). -/
structure LastUplink where
  hatch : HatchState
  drum : Nat
  card : Option Nat
  level : Option LevelReading
deriving DecidableEq, Repr

/-- A pending presentation answer (R28). -/
structure Answer where
  card : Nat
  code : DisplayCode
deriving DecidableEq, Repr

/-- A downlink as sent (R25). -/
structure Downlink where
  command : HatchCommand
  display : DisplayCode
  tag : Option Nat
deriving DecidableEq, Repr

/-- What the Inlet Bus Controller holds for one column (R28, R29, R30, R32), and the last downlink the
column was sent (R25). -/
structure Column where
  consecutive : Nat := 0
  total : Nat := 0
  lost : Bool := false
  last : Option LastUplink := none
  answer : Option Answer := none
  downlink : Option Downlink := none
deriving DecidableEq, Repr

/-- A hatch cycle record (R47). -/
structure Cycle where
  card : Nat
  household : Nat
  charge : Nat
  time : Option Stamp
  phase : Phase
  confirmed : Bool
deriving DecidableEq, Repr

/-- What the Hatch Cycle Unit holds for one container (R47, R50, R52, R54, R55). -/
structure Hatch where
  cycle : Option Cycle := none
  tOw : Option Nat := none
  tDep : Option Nat := none
  baseline : Option Nat := none
  demand : Option CloseTimer := none
  stray : Nat := 0
deriving DecidableEq, Repr

/-- An entry of a reading window (R109); the arrival ranks are kept as 1 to the number of entries, the model's
numbering (log entry 31). -/
structure Reading where
  value : Nat
  rank : Nat
deriving DecidableEq, Repr

/-- An estimate record (R104): `fill` is E, `bulk` is k, `volume` is ΣV, `fails` is F, `silent` is S,
`adjust` is A. -/
structure Estimate where
  fill : Nat := 0
  rem : Nat := 0
  bulk : Nat := 256
  window : List Reading := []
  mPrev : Option Nat := none
  mLast : Option Nat := none
  volume : Nat := 0
  fails : Nat := 0
  clean : Nat := 0
  silent : Nat := 0
  mode : TrustMode := .tracking
  adjust : Int := 0
  offsetLimit : Bool := false
  rateLimit : Bool := false
  missingMeasure : Bool := false
  missingRate : Bool := false
  closeFlag : Bool := false
deriving DecidableEq, Repr

/-- A hold record (R176). -/
structure Hold where
  service : Bool := false
  emptying : Option Nat := none
  orphan : Bool := false
  reported : Bool := false
  tQ : Option Nat := none
  forced : Bool := false
deriving DecidableEq, Repr

/-- Everything the blocks hold for one container; `display` is the denial display of its column (R80). -/
structure Bay where
  record : ContainerRec := {}
  column : Column := {}
  hatch : Hatch := {}
  display : Option DenialReason := none
  est : Estimate := {}
  hold : Hold := {}
deriving DecidableEq, Repr

/-- A curfew window (R19). -/
structure Window where
  start : Nat
  stop : Nat
deriving DecidableEq, Repr

/-- The district settings, in the order of R201. -/
structure Settings where
  period : Nat := 15
  rollover : Nat := 0
  curfew : Vector Window 5 := Vector.replicate 5 ⟨0, 0⟩
  plans : Vector Nat 16 := Vector.replicate 16 0
  nLost : Nat := 4
  tInact : Nat := 90
  tOw : Nat := 8
  tDep : Nat := 45
  tCl : Nat := 10
  tQ : Nat := 30
  tDock : Nat := 120
deriving DecidableEq, Repr

/-- The wall clock (R15). -/
structure Clock where
  subMinute : Nat := 0
  minute : Nat := 0
  week : Nat := 0
  set : Bool := false
deriving DecidableEq, Repr

/-- The bus and its line (R23, R33, R38, R40, R42). `slots` are the slots of the cycle under way that
have not ended, the slot in progress first; `none` is a padding slot. `heldTf` says whether the
present run of the line has lasted Tf (log entry 16); `stuck` is the stuck-line measure in
microseconds, as it stood at the last edge (log entry 17). -/
structure Bus where
  state : BusState := .active
  target : Option BusTarget := none
  counter : Nat := 0
  flags : BitVec 6 := 0#6
  firstWake : Bool := false
  qualifier : Qualifier := .off
  tInact : Option Nat := none
  stuck : Nat := 0
  level : LineLevel := .idle
  heldTf : Bool := false
  slots : List (Option Box) := List.replicate 8 none
deriving DecidableEq, Repr

/-- A card record (R65). -/
structure CardRecord where
  number : Nat
  household : Nat
  status : CardStatus
  plan : Fin 16
  clusters : BitVec 8
  fractions : BitVec 8
  remaining : Nat
deriving DecidableEq, Repr

/-- The lost-card sighting (R78). -/
structure Sighting where
  card : Nat
  household : Nat
  container : Box
  time : Option Stamp
deriving DecidableEq, Repr

/-- A deposit log record (R94). -/
structure LogRecord where
  sequence : Nat
  time : Option Stamp
  card : Nat
  household : Nat
  container : Box
  fraction : Fraction
  outcome : CycleOutcome
  applied : Nat
  after : Option Nat
deriving DecidableEq, Repr

/-- An active order (R144); its creation position is its place in the order list (log entry 25). -/
structure Order where
  number : Nat
  container : Box
  origin : Origin
  priority : Nat
  label : Nat
  oneShot : Bool
  unverified : Bool
  attempts : Nat
  state : OrderState
  abortRequested : Bool
  vehicle : Option Nat
deriving DecidableEq, Repr

/-- A history entry (R162). -/
structure HistoryEntry where
  number : Nat
  label : Nat
  container : Box
  origin : Origin
  outcome : OrderOutcome
  mark : Bool
  cause : Option FailCause
  mass : Option Nat
  vehicle : Option Nat
  time : Option Stamp
  attempts : Nat
deriving DecidableEq, Repr

/-- The dock record (R169); T_dock runs while it exists. -/
structure DockRecord where
  vehicle : Nat
  fractions : BitVec 8
  tDock : Nat
deriving DecidableEq, Repr

/-! ## Answers at the ports -/

/-- An entry of a hold list (R170). -/
structure HoldEntry where
  container : Box
  claim : ClaimState
  order : Option Nat
  reported : Bool
deriving DecidableEq, Repr

/-- An entry of an offer (R171). -/
structure OfferEntry where
  order : Nat
  container : Box
  cluster : Nat
  fraction : Fraction
  priority : Nat
  unverified : Bool
  percent : Nat
deriving DecidableEq, Repr

/-- What a reply carries beside its status and hold list (R171, R172, R177, R178). -/
inductive ReplyBody where
  | nothing
  | offer (entries : List OfferEntry)
  | claimed (container : Box) (claim : ClaimState) (order : Option Nat)
  | lifted (order : Option Nat) (outcome : LiftCode)
deriving DecidableEq, Repr

/-- A reply on the vehicle link (R170). -/
structure Reply where
  status : LinkStatus
  holds : List HoldEntry
  body : ReplyBody
deriving DecidableEq, Repr

/-- The figures of Chapter 7 that Read Container Status returns as they stand when the command is taken (R133, R143). -/
structure FillFigures where
  mode : TrustMode
  closeFlag : Bool
  effFill : Nat
  effPercent : Nat
  tOrderL : Nat
  tCloseL : Nat
  tReopenL : Nat
deriving DecidableEq, Repr

/-- What Read Container Status returns (R201); the mode and the close flag stand in `est`. -/
structure ContainerStatus where
  opState : OpState
  started : Bool
  fault : FaultAttr
  tally : Nat
  lost : Bool
  consecutive : Nat
  total : Nat
  lastHatch : Option HatchState
  lastLevel : Option LevelReading
  phase : Option Phase
  card : Option Nat
  demand : Option CloseTimer
  stray : Nat
  baseline : Option Nat
  est : Estimate
  windowCount : Nat
  effFill : Nat
  effPercent : Nat
  tOrderL : Nat
  tCloseL : Nat
  tReopenL : Nat
  hold : Hold
  order : Option Nat
deriving DecidableEq, Repr

/-- What became of the order of a released orphan (R181). -/
inductive OrphanFate where
  | pending | failed | aborted | untouched
deriving DecidableEq, Repr

/-- The data of a response, by content (log entry 5). -/
inductive RespData where
  | nothing
  | settings (v : Settings)
  | config (v : ContainerConfig)
  | configStarted (v : ContainerConfig) (started : Bool)
  | clock (minute week : Nat) (set : Bool)
  | cardRecord (v : CardRecord)
  | cardRead (v : Option (CardRecord × Bool)) (count : Nat)
  | logPeek (records : List LogRecord) (occupancy reserved : Nat) (oldest : Option Nat)
  | logReleased (removed occupancy : Nat)
  | containerStatus (v : ContainerStatus)
  | estimate (fill bulk : Nat) (mode : TrustMode)
  | adjustment (a : Int)
  | orderPosted (number : Nat) (merged : Bool)
  | orderState (v : OrderState)
  | orderList (count counter : Nat) (orders : List (Order × Nat))
  | historyRead (left : Nat) (wrapped : Bool) (entries : List HistoryEntry)
  | holdState (v : ClaimState)
  | orphan (vehicle : Nat) (fate : OrphanFate)
  | fault (v : FaultAttr)
  | busFlags (state : BusState) (target : Option BusTarget) (counter : Nat) (flags : BitVec 6)
  | flags (v : BitVec 6)
  | attention (items mask : BitVec 10) (level : AttentionLevel)
  | items (v : BitVec 10)
  | mask (v : BitVec 10)
  | denials (counters : Vector Nat 11) (sighting : Option Sighting)
  | resetCounts (cycles orders : Nat)
deriving DecidableEq, Repr

/-- A response: status code and data (R190). -/
structure Response where
  status : Status
  data : RespData
deriving DecidableEq, Repr

/-- A command taken behind an unfinished one (R190); a Read Container Status with the figures formed when it was
taken (R133, R143; log entry 32). -/
structure Waiting where
  command : Instr
  figures : Option FillFigures := none
deriving DecidableEq, Repr

/-- The frame on the operations port (R189): none; begun, with no command taken; its command taken and
wait bytes given; its response given. -/
inductive Frame where
  | none | begun | waiting | responding (r : Response)
deriving DecidableEq, Repr

/-- The Operations Port Interface (R189, R190, R193, R194, R195, R197, R198). -/
structure Port where
  frame : Frame := .none
  summary : Option Byte := none
  discarded : Bool := false
  carrying : Option Response := none
  waiting : List Waiting := []
  items : BitVec 10 := 1#10
  mask : BitVec 10 := 1023#10
  line : AttentionLine := .asserted
deriving DecidableEq, Repr

/-! ## The card record storage -/

/-- What a place of the card record storage holds: zeros as after a power-on reset (R84), a record of the list, or
what a record that has left it leaves there, which the manual does not state (log entry 35). -/
inductive CardPlace where
  | zeros | holds (k : CardRecord) | left (v : Nat)
deriving DecidableEq, Repr

/-- The places of the record storage that have held a record since the power-on reset, `used` of them from the first
on, and the number of records removed since (R66, R84; log entry 35). -/
structure CardStorage where
  used : Nat := 0
  removals : Nat := 0
deriving DecidableEq, Repr

/-! ## The state -/

/-- The state of the DN32. Its default values are the power-on values of R21, R45, R63, R84, R102,
R127, R166, R187 and R202; `orders` stands in order of creation, `openCards` in order of grant.
`draws` is the model's own: it numbers the uses of the free value `Config.endKey` (log entry 8).
`pending` is the queue of events waiting to be taken. -/
structure State where
  bays : Vector Bay 32 := Vector.replicate 32 {}
  clock : Clock := {}
  settings : Settings := {}
  bus : Bus := {}
  cards : List CardRecord := []
  cardStorage : CardStorage := {}
  openCards : List Nat := []
  denials : Vector Nat 11 := Vector.replicate 11 0
  sighting : Option Sighting := none
  log : List LogRecord := []
  reserved : Nat := 0
  nextSequence : Nat := 0
  orders : List Order := []
  orderCounter : Nat := 1
  history : List HistoryEntry := []
  wrapped : Bool := false
  dock : Option DockRecord := none
  reply : Option Reply := none
  port : Port := {}
  draws : Nat := 0
  pending : List Instr := []
deriving DecidableEq, Repr

/-- The machine right after a power-on reset, its queue empty (R21, R45, R63, R84, R102, R127, R141,
R166, R187, R202). That no command is in hand and none waits at the port is log entry 34. -/
def State.reset : State := {}

/-- No event of the table stops the part: every refused command or message is answered (R191, R168).
So there is no fault. -/
inductive Fault where
deriving DecidableEq, Repr

/-- Why a step can be refused. -/
inductive Refusal where
  /-- Raised by a dispatch arm for a row that has no meaning yet; safe. No arm of this model raises it. -/
  | notModelled (mnemonic : String)
deriving DecidableEq, Repr

end Sys2Proof.Machine
end

