-- ==== Sys2Proof/Machine/Operands.lean ====
section
/-! DEFINITION. How carried values are read: codes, two-valued values, container numbers, and the
clamping of configuration and settings (R3, R192, R201, R203). -/

namespace Sys2Proof.Machine

open Sys2Proof

/-- A value brought to the nearest limit of its range (R192). -/
def clampTo (lo hi v : Nat) : Nat :=
  max lo (min hi v)

/-- A two-valued value: 0 means no, any other value yes (R192). -/
def isYes (b : Byte) : Bool :=
  b != 0#8

/-- The container a number names; a number above 31 names none (R192). -/
def boxOf (b : Byte) : Option Box :=
  if h : b.toNat < 32 then some ⟨b.toNat, h⟩ else none

/-- The code of a fraction (R203). -/
def fractionCode (f : Fraction) : Fin 5 :=
  match f with
  | .residual => 0
  | .paper => 1
  | .packaging => 2
  | .glass => 3
  | .organic => 4

/-- The fraction a code names, if it names one (R203). -/
def fractionOf (b : Byte) : Option Fraction :=
  match b.toNat with
  | 0 => some .residual
  | 1 => some .paper
  | 2 => some .packaging
  | 3 => some .glass
  | 4 => some .organic
  | _ => none

/-- The card status a code names, if it names one (R203). -/
def cardStatusOf (b : Byte) : Option CardStatus :=
  match b.toNat with
  | 0 => some .active
  | 1 => some .suspended
  | 2 => some .lost
  | _ => none

/-- The plan an index names, if it names one (R67). -/
def planOf (b : Byte) : Option (Fin 16) :=
  if h : b.toNat < 16 then some ⟨b.toNat, h⟩ else none

/-- A fraction set that names only fractions that exist: bits 5, 6 and 7 clear (R203). -/
def isFractionSet (b : Byte) : Bool :=
  b &&& 0xE0#8 == 0#8

/-- Whether a fraction is in a set (R203). -/
def inFractions (f : Fraction) (set : BitVec 8) : Bool :=
  set.getLsbD (fractionCode f).val

/-- A number that may name a card: neither 0 nor the all-ones value (R65). -/
def isCardNumber (card : Quad) : Bool :=
  card != 0#32 && card != 0xFFFFFFFF#32

/-- The card fields Insert Card and Update Card carry, when every one of them is in order (R67): the
status, the plan, and the fraction set must name what exists; every cluster set does. -/
def cardFieldsOf (card : Quad) (p : CardParams) : Option CardRecord :=
  match cardStatusOf p.status, planOf p.plan, isFractionSet p.fractions with
  | some st, some pl, true =>
    some { number := card.toNat, household := p.household.toNat, status := st, plan := pl,
           clusters := p.clusters, fractions := p.fractions, remaining := 0 }
  | _, _, _ => none

/-! ## Container configuration -/

/-- The configuration as carried, fraction code read, nothing clamped (R2). -/
def configCarried (f : Fraction) (p : ContainerParams) : ContainerConfig :=
  { present := isYes p.present, fraction := f, cluster := p.cluster.toNat,
    capacity := p.capacity.toNat, depth := p.depth.toNat, drum := p.drum.toNat, charge := p.charge.toNat,
    tOrder := p.tOrder.toNat, tClose := p.tClose.toNat, tReopen := p.tReopen.toNat,
    omax := p.omax.toNat, kmax := p.kmax.toNat, vmin := p.vmin.toNat, residual := p.residual.toNat,
    fDoubt := p.fDoubt.toNat, fBlind := p.fBlind.toNat, rClean := p.rClean.toNat, sBlind := p.sBlind.toNat }

/-- The first step of clamping: each value to its own fixed range (R1, R3). -/
def clampRanges (k : ContainerConfig) : ContainerConfig :=
  { k with
    capacity := clampTo 500 5000 k.capacity
    depth := clampTo 500 4000 k.depth
    drum := clampTo 10 250 k.drum
    charge := clampTo 0 4 k.charge
    tOrder := clampTo 10 120 k.tOrder
    tClose := clampTo 20 125 k.tClose
    tReopen := clampTo 0 124 k.tReopen
    omax := clampTo 10 1000 k.omax
    kmax := clampTo 1 64 k.kmax
    vmin := clampTo 20 2000 k.vmin
    residual := clampTo 0 300 k.residual
    fDoubt := clampTo 1 15 k.fDoubt
    fBlind := clampTo 1 15 k.fBlind
    rClean := clampTo 1 31 k.rClean
    sBlind := clampTo 2 64 k.sBlind }

/-- The second step: T_reopen below T_close, F_blind not below F_doubt (R3). -/
def clampDependent (k : ContainerConfig) : ContainerConfig :=
  { k with
    tReopen := if k.tReopen < k.tClose then k.tReopen else k.tClose - 1
    fBlind := if k.fBlind < k.fDoubt then k.fDoubt else k.fBlind }

/-- The configuration as it would be stored (R3). -/
def clampConfig (k : ContainerConfig) : ContainerConfig :=
  clampDependent (clampRanges k)

/-- Whether the physical fields agree (R2 check 3, R4). -/
def samePhysical (a b : ContainerConfig) : Bool :=
  a.present == b.present && a.fraction == b.fraction && a.cluster == b.cluster &&
  a.capacity == b.capacity && a.depth == b.depth && a.drum == b.drum && a.charge == b.charge

/-- Whether C and H agree (R4). -/
def sameGeometry (a b : ContainerConfig) : Bool :=
  a.capacity == b.capacity && a.depth == b.depth

/-- Whether the three thresholds agree (R5). -/
def sameThresholds (a b : ContainerConfig) : Bool :=
  a.tOrder == b.tOrder && a.tClose == b.tClose && a.tReopen == b.tReopen

/-! ## District settings -/

/-- The settings as carried, nothing clamped (R201). -/
def settingsCarried (p : DistrictParams) : Settings :=
  { period := p.period.toNat, rollover := p.rollover.toNat,
    curfew := Vector.ofFn fun i => ⟨(p.curfew[i]).start.toNat, (p.curfew[i]).stop.toNat⟩
    plans := Vector.ofFn fun i => (p.plans[i]).toNat
    nLost := p.nLost.toNat, tInact := p.tInact.toNat, tOw := p.tOw.toNat, tDep := p.tDep.toNat,
    tCl := p.tCl.toNat, tQ := p.tQ.toNat, tDock := p.tDock.toNat }

/-- The values that are refused and not clamped: the rollover minute and the curfew minutes (R18, R19). -/
def settingsAccepted (v : Settings) : Bool :=
  decide (v.rollover ≤ 10079) &&
  v.curfew.toList.all fun w => decide (w.start ≤ 1439) && decide (w.stop ≤ 1439)

/-- The settings as they would be stored (R201). -/
def clampSettings (v : Settings) : Settings :=
  { v with
    period := clampTo 5 60 v.period
    plans := Vector.ofFn fun i => clampTo 0 250 v.plans[i]
    nLost := clampTo 2 15 v.nLost
    tInact := clampTo 30 600 v.tInact
    tOw := clampTo 2 30 v.tOw
    tDep := clampTo 10 120 v.tDep
    tCl := clampTo 2 30 v.tCl
    tQ := clampTo 5 120 v.tQ
    tDock := clampTo 10 600 v.tDock }

end Sys2Proof.Machine
end

