-- ==== Sys2Proof/Machine/Layout.lean ====
section
/-! DEFINITION. The byte layouts of the operations port: numbers, the deposit log record, the history entry,
the district settings, the response (R190, R192, R201, R203). -/

namespace Sys2Proof.Machine

open Sys2Proof

/-- A number in one byte. -/
def byte1 (n : Nat) : List Byte :=
  [BitVec.ofNat 8 n]

/-- A number in two bytes, most significant first (R192). -/
def byte2 (n : Nat) : List Byte :=
  [BitVec.ofNat 8 (n / 256), BitVec.ofNat 8 n]

/-- A number in four bytes, most significant first (R192). -/
def byte4 (n : Nat) : List Byte :=
  byte2 (n / 65536) ++ byte2 n

/-- The time of a record: week and minute, 0 and 65535 when absent (R203). -/
def stampBytes (t : Option Stamp) : List Byte :=
  match t with
  | some v => byte2 v.week ++ byte2 v.minute
  | none => byte2 0 ++ byte2 65535

/-- The code of a cycle's outcome (R203). -/
def outcomeCode (o : CycleOutcome) : Nat :=
  match o with
  | .deposit => 0
  | .noDeposit => 1
  | .cut => 2
  | .unconfirmed => 3

/-- The 19 bytes of a deposit log record (R203). -/
def logRecordBytes (r : LogRecord) : List Byte :=
  byte4 r.sequence ++ stampBytes r.time ++ byte4 r.card ++ byte2 r.household ++ byte1 r.container.val ++
    byte1 (fractionCode r.fraction).val ++ byte1 (outcomeCode r.outcome) ++ byte1 r.applied ++
    byte1 (r.after.getD 255)

/-- The code of an order's origin (R203). -/
def originCode (o : Origin) : Nat :=
  match o with
  | .operations => 0
  | .auto => 1
  | .vehicle => 2

/-- The code of an order's outcome (R203). -/
def orderOutcomeCode (o : OrderOutcome) : Nat :=
  match o with
  | .emptied => 0
  | .partLifted => 1
  | .failed => 2
  | .aborted => 3
  | .reset => 4

/-- The code of a failure cause (R203). -/
def causeCode (c : Option FailCause) : Nat :=
  match c with
  | none => 0
  | some .blocked => 1
  | some .linkLost => 2

/-- The 18 bytes of a history entry (R203). -/
def historyEntryBytes (e : HistoryEntry) : List Byte :=
  byte2 e.number ++ byte2 e.label ++ byte1 e.container.val ++ byte1 (originCode e.origin) ++
    byte1 (orderOutcomeCode e.outcome) ++ byte1 (if e.mark then 1 else 0) ++ byte1 (causeCode e.cause) ++
    byte2 (e.mass.getD 0) ++ byte2 (e.vehicle.getD 0) ++ stampBytes e.time ++ byte1 e.attempts

/-- The 48 bytes of the district settings (R201). -/
def settingsBytes (v : Settings) : List Byte :=
  byte1 v.period ++ byte2 v.rollover ++ v.curfew.toList.flatMap (fun w => byte2 w.start ++ byte2 w.stop) ++
    v.plans.toList.flatMap byte1 ++ byte1 v.nLost ++ byte2 v.tInact ++ byte1 v.tOw ++ byte1 v.tDep ++
    byte1 v.tCl ++ byte1 v.tQ ++ byte2 v.tDock

/-- The attention word: two bytes, bits 0..9 the items in the order of R203, the other bits 0. -/
def attentionWord (items : BitVec 10) : List Byte :=
  byte2 items.toNat

/-- The data bytes of a response. Where the manual gives no layout, or none for the leading fields, they
are a free value; the parts of Read Attention's data stand in the order in which R196 names them, the byte of
the level being free (log entry 5). -/
def dataBytes (d : RespData) : List Byte :=
  match d with
  | .nothing => []
  | .settings v => settingsBytes v
  | .attention items mask level =>
    attentionWord items ++ attentionWord mask ++ Config.unstatedBytes AttentionLevel level
  | .items v => attentionWord v
  | .mask v => attentionWord v
  | .logPeek records occupancy reserved oldest =>
    Config.unstatedBytes (Nat × Nat × Nat × Option Nat) (records.length, occupancy, reserved, oldest) ++
      records.flatMap logRecordBytes
  | .historyRead left wrapped entries =>
    Config.unstatedBytes (Nat × Nat × Bool) (entries.length, left, wrapped) ++
      entries.flatMap historyEntryBytes
  | d => Config.unstatedBytes RespData d

/-- The value of a status code (R191). -/
def statusCode (st : Status) : Nat :=
  match st with
  | .ok => 0
  | .okClamped => 1
  | .badCommand => 2
  | .badLength => 3
  | .notFound => 4
  | .duplicate => 5
  | .full => 6
  | .state => 7
  | .notHeld => 8

/-- The bytes of a response: status, data count, data (R190). -/
def responseBytes (r : Response) : List Byte :=
  byte1 (statusCode r.status) ++ byte2 (dataBytes r.data).length ++ dataBytes r.data

end Sys2Proof.Machine
end

