-- ==== Sys2Proof/Machine/Flags.lean ====
section
/-! DEFINITION. The status bits: sticky bus flags, attention items, their mask, and the attention line. -/

namespace Sys2Proof.Machine

open Sys2Proof

/-- The place of a sticky flag in the flags byte (R203). -/
def busFlagBit (f : BusFlag) : Nat :=
  match f with
  | .validSeen => 0
  | .garbledSeen => 1
  | .silentSeen => 2
  | .overrunSeen => 3
  | .wakeSeen => 4
  | .stuckSeen => 5

/-- A sticky flag is set at its event, whatever its value before (R33). -/
def setBusFlag (f : BusFlag) (s : State) : State :=
  { s with bus := { s.bus with flags := s.bus.flags ||| BitVec.twoPow 6 (busFlagBit f) } }

/-- The place of an item in the attention word (R203). -/
def itemBit (i : Item) : Nat :=
  match i with
  | .powerOn => 0
  | .logHigh => 1
  | .containerFault => 2
  | .estimateBlind => 3
  | .wake => 4
  | .dock => 5
  | .undock => 6
  | .historyNew => 7
  | .lineStuck => 8
  | .lostCardSeen => 9

/-- The attention condition: at least one item is both set and enabled (R198). -/
def attentionCondition (p : Port) : Bool :=
  p.items &&& p.mask != 0#10

/-- The level of the line in each of its states (R198). -/
def lineLevel (line : AttentionLine) : AttentionLevel :=
  match line with
  | .asserted => .low
  | .holding => .high
  | .released => .high

/-- The attention line follows the condition, except in Holding (R198). -/
def followLine (p : Port) : Port :=
  match p.line with
  | .released => if attentionCondition p then { p with line := .asserted } else p
  | .asserted => if attentionCondition p then p else { p with line := .holding }
  | .holding => p

/-- To raise an item is to set it; the line follows (R195, R198). -/
def raise (i : Item) (s : State) : State :=
  { s with port := followLine { s.port with items := s.port.items ||| BitVec.twoPow 10 (itemBit i) } }

/-- Each item whose request is set is cleared; the line follows (R196, R198). Bits 10..15 are ignored
(R203). -/
def clearItems (requests : Half) (s : State) : State :=
  { s with port := followLine { s.port with items := s.port.items &&& ~~~ (requests.setWidth 10) } }

/-- The whole mask is replaced; the line follows (R197, R198). -/
def replaceMask (enables : Half) (s : State) : State :=
  { s with port := followLine { s.port with mask := enables.setWidth 10 } }

/-- At the expiry of the deassert timer a Holding line becomes Asserted or Released (R198). -/
def deassertExpired (p : Port) : Port :=
  match p.line with
  | .holding => { p with line := if attentionCondition p then .asserted else .released }
  | .asserted => p
  | .released => p

end Sys2Proof.Machine
end

