-- ==== Sys2Proof/Machine/Ops.lean ====
section
/-! DEFINITION. The shared operations over the records of one container, the operating state, the wall
clock's stamps, and the bus as far as the other blocks reach it (Chapters 1, 2, 9). -/

namespace Sys2Proof.Machine

open Sys2Proof

/-! ## Access to the records of one container -/

/-- Everything held for container `c`. -/
def State.bay (s : State) (c : Box) : Bay :=
  s.bays[c]

/-- The records of container `c` replaced by `f` of them; every other container's stay. -/
def State.modBay (s : State) (c : Box) (f : Bay → Bay) : State :=
  { s with bays := s.bays.set c (f (s.bay c)) }

/-- The records of every container replaced by `f` of them. -/
def State.mapBays (s : State) (f : Bay → Bay) : State :=
  { s with bays := Vector.ofFn fun c => f (s.bay c) }

/-- The container record of `c` changed. -/
def State.modRecord (s : State) (c : Box) (f : ContainerRec → ContainerRec) : State :=
  s.modBay c fun b => { b with record := f b.record }

/-- The column record of `c` changed. -/
def State.modColumn (s : State) (c : Box) (f : Column → Column) : State :=
  s.modBay c fun b => { b with column := f b.column }

/-- The hatch record of `c` changed. -/
def State.modHatch (s : State) (c : Box) (f : Hatch → Hatch) : State :=
  s.modBay c fun b => { b with hatch := f b.hatch }

/-- The estimate record of `c` changed. -/
def State.modEst (s : State) (c : Box) (f : Estimate → Estimate) : State :=
  s.modBay c fun b => { b with est := f b.est }

/-- The hold record of `c` changed. -/
def State.modHold (s : State) (c : Box) (f : Hold → Hold) : State :=
  s.modBay c fun b => { b with hold := f b.hold }

/-- The denial display of column `c` replaced. -/
def State.setDisplay (s : State) (c : Box) (d : Option DenialReason) : State :=
  s.modBay c fun b => { b with display := d }

/-- The containers in ascending number. -/
def allBoxes : List Box :=
  List.finRange 32

/-- `a + 1`, staying at `top` once it is reached. -/
def bump (top a : Nat) : Nat :=
  min top (a + 1)

/-! ## The operating state -/

/-- A hold is requested when either source is set (R176). -/
def Hold.requested (h : Hold) : Bool :=
  h.service || h.emptying.isSome

/-- Whether the container has an active hatch cycle (R47). -/
def Bay.cycleActive (b : Bay) : Bool :=
  b.hatch.cycle.isSome

/-- The operating state, derived from its five inputs (R12). -/
def opState (b : Bay) : OpState :=
  if !b.record.started then .dormant
  else if b.hold.requested then (if b.cycleActive then .quiescing else .held)
  else if b.record.fault != .none then .inFault
  else if b.est.closeFlag then .fullClosed
  else .opened

/-- The standing display code of a column (R13). -/
def standingCode (b : Bay) : DisplayCode :=
  match opState b with
  | .dormant => .outOfService
  | .held => .outOfService
  | .inFault => .outOfService
  | .quiescing => .idle
  | .fullClosed => .idle
  | .opened => .idle

/-- The containers with an active hatch cycle. -/
def activeBoxes (s : State) : List Box :=
  allBoxes.filter fun c => (s.bay c).cycleActive

/-- A ColumnLost request sets the attribute and raises ContainerFault only where it was None (R10). -/
def requestColumnLost (c : Box) (s : State) : State :=
  if (s.bay c).record.fault = .none then
    raise .containerFault (s.modRecord c fun r => { r with fault := .columnLost })
  else s

/-- The attribute part of a HatchJam request: set, and ContainerFault raised, only where it was None (R10). -/
def setHatchJam (c : Box) (s : State) : State :=
  if (s.bay c).record.fault = .none then
    raise .containerFault (s.modRecord c fun r => { r with fault := .hatchJam })
  else s

/-! ## The wall clock -/

/-- The time a record carries: absent while the clock is unset (R47, R78, R162). -/
def stamp (s : State) : Option Stamp :=
  if s.clock.set then some ⟨s.clock.week, s.clock.minute⟩ else none

/-- Whether a fraction is under curfew (R20). -/
def underCurfew (s : State) (f : Fraction) : Bool :=
  let w := s.settings.curfew[fractionCode f]
  let m := s.clock.minute % 1440
  s.clock.set &&
    (if w.start < w.stop then decide (w.start ≤ m) && decide (m < w.stop)
     else if w.stop < w.start then decide (w.start ≤ m) || decide (m < w.stop)
     else false)

/-! ## Free orders -/

/-- A container put among others by the free key (log entry 8). -/
def insertByKey (draw : Nat) (c : Box) : List Box → List Box
  | [] => [c]
  | d :: rest =>
    if Config.endKey draw c.val ≤ Config.endKey draw d.val then c :: d :: rest
    else d :: insertByKey draw c rest

/-- Containers in the order in which the part takes them where the manual states no order (log entry 8). -/
def freeOrder (draw : Nat) (cs : List Box) : List Box :=
  cs.foldr (insertByKey draw) []

/-! ## The bus -/

/-- The bus runs cycles while it is Active, Woken or Draining (R23); otherwise polling is stopped (R44). -/
def isPolling (b : Bus) : Bool :=
  match b.state with
  | .active => true
  | .woken => true
  | .draining => true
  | .quiet => false
  | .blocked => false

/-- A running T_cl is held (R44, R57). -/
def holdTimer (t : CloseTimer) : CloseTimer :=
  match t with
  | .running _ => .held
  | .held => .held
  | .spent => .spent

/-- What the stop of polling does at one container: its T_cl is held, its pending answer is dropped and
its denial display ends (R28, R44, R80). -/
def stopPollingBay (b : Bay) : Bay :=
  { b with
    hatch := { b.hatch with demand := b.hatch.demand.map holdTimer }
    column := { b.column with answer := none }
    display := none }

/-- The step in which the qualifier is after entering Recovering: an idle run in progress counts from its
start (R38; log entry 16). -/
def recoveringFrom (b : Bus) : Qualifier :=
  if b.level = .idle ∧ b.heldTf = true then .ready else .recovering

/-- Entry to Quiet (R37): only the slot in progress stays to run to its end. -/
def enterQuiet (s : State) : State :=
  let s := s.mapBays stopPollingBay
  { s with bus := { s.bus with
      state := .quiet, target := none, tInact := none, firstWake := false,
      qualifier := recoveringFrom s.bus, slots := s.bus.slots.take 1 } }

/-- The bus leaves Active or Woken for Draining or Quiet as a Bus Quiet gives (R35, R40). -/
def leaveForQuiet (s : State) : State :=
  if (activeBoxes s).isEmpty then enterQuiet s
  else { s with bus := { s.bus with state := .draining, tInact := none } }

/-- The hatch command a downlink to the column carries (R49). -/
def hatchCommand (h : Hatch) : HatchCommand :=
  if h.demand.isSome then .closeHatch
  else match h.cycle with
    | some k => if k.phase = .deposited then .keepClosed else .openHatch
    | none => .keepClosed

/-- The display code of a column with no pending answer: cycle display, denial display, standing code (R25, R80). -/
def displayCode (b : Bay) : DisplayCode :=
  if b.cycleActive then .granted
  else match b.display with
    | some r => .denied r
    | none => standingCode b

/-- The downlink assembled for a column (R25). -/
def downlinkOf (b : Bay) : Downlink :=
  match b.column.answer with
  | some a => ⟨hatchCommand b.hatch, a.code, some a.card⟩
  | none => ⟨hatchCommand b.hatch, displayCode b, none⟩

/-- A held T_cl starts again with the current length (R44, R57; log entry 13). -/
def resumeDemand (len : Nat) (h : Hatch) : Hatch :=
  { h with demand := if h.demand = some .held then some (.running len) else h.demand }

/-- The start of the slot at the head of the slot list: a held T_cl of a column that is not lost starts
again, and the downlink is assembled and sent (R24, R25, R44). A padding slot sends nothing. -/
def startSlot (s : State) : State :=
  match s.bus.slots with
  | some c :: _ =>
    let s := if (s.bay c).column.lost then s else s.modHatch c (resumeDemand s.settings.tCl)
    s.modColumn c fun k => { k with downlink := some (downlinkOf (s.bay c)) }
  | none :: _ => s
  | [] => s

/-- The slot list of a cycle that starts now (R23). -/
def slotList (s : State) : List (Option Box) :=
  let present := allBoxes.filter fun c => (s.bay c).record.config.present
  present.map some ++ List.replicate (8 - present.length) none

/-- A bus cycle starts: the list is fixed, the counter advances, the first slot starts (R23). A slot in
progress is given up without an outcome (log entry 11). -/
def startCycle (s : State) : State :=
  startSlot { s with bus := { s.bus with counter := (s.bus.counter + 1) % 64, slots := slotList s } }

/-- The end of a slot has been handled: the next slot or the next cycle starts, or, while polling is
stopped, no further slot (R23, R37). -/
def nextSlot (s : State) : State :=
  if isPolling s.bus then
    match s.bus.slots.tail with
    | [] => startCycle s
    | rest => startSlot { s with bus := { s.bus with slots := rest } }
  else { s with bus := { s.bus with slots := [] } }

/-- The bus leaves a stopped state for a cycling one: a new cycle starts at once (R23, R39, R41, R43). -/
def resumePolling (next : BusState) (s : State) : State :=
  startCycle { s with bus := { s.bus with state := next, target := none, qualifier := .off } }

end Sys2Proof.Machine
end

