-- ==== Sys2Proof/Machine/Allowance.lean ====
section
/-! DEFINITION. The card list, and the Allowance and Log Unit: plans, remaining allowances, settlement,
the deposit log (Chapters 4 and 5). -/

namespace Sys2Proof.Machine

open Sys2Proof

/-- The record of a card number, if it is present (R66). -/
def State.cardOf (s : State) (number : Nat) : Option CardRecord :=
  s.cards.find? fun k => k.number == number

/-- The record of a card number changed. -/
def State.modCard (s : State) (number : Nat) (f : CardRecord → CardRecord) : State :=
  { s with cards := s.cards.map fun k => if k.number = number then f k else k }

/-- A record placed in ascending card number order (R66). -/
def insertCardRecord (k : CardRecord) : List CardRecord → List CardRecord
  | [] => [k]
  | x :: rest => if x.number < k.number then x :: insertCardRecord k rest else k :: x :: rest

/-- The value of a card's plan (R86). -/
def planValue (s : State) (k : CardRecord) : Nat :=
  s.settings.plans[k.plan]

/-- A rollover: every card's allowance becomes the value of its plan (R92). -/
def rollover (s : State) : State :=
  { s with cards := s.cards.map fun k => { k with remaining := planValue s k } }

/-- The cards after new plan values: those of a lowered plan are cut to it (R87). -/
def cutToPlans (old new : Vector Nat 16) (cards : List CardRecord) : List CardRecord :=
  cards.map fun k =>
    if new[k.plan] < old[k.plan] then { k with remaining := min k.remaining new[k.plan] } else k

/-- A grant's reservation: the charge leaves the allowance and one log slot is reserved (R89). -/
def reserve (card charge : Nat) (s : State) : State :=
  { s.modCard card (fun k => { k with remaining := k.remaining - charge }) with reserved := s.reserved + 1 }

/-- A refund, capped at the plan value (R90 step 2). -/
def refund (card charge : Nat) (s : State) : State :=
  s.modCard card fun k => { k with remaining := min (planValue s k) (k.remaining + charge) }

/-- A record is appended under the next sequence number; the append that brings the occupancy to 768
raises LogHigh (R95, R97, R101). -/
def appendLog (r : LogRecord) (s : State) : State :=
  let s' := { s with log := s.log ++ [r], nextSequence := (s.nextSequence + 1) % 4294967296 }
  if s'.log.length = 768 then raise .logHigh s' else s'

/-- The log record of an ended cycle (R94). -/
def recordOf (s : State) (c : Box) (o : CycleOutcome) (k : Cycle) : LogRecord :=
  { sequence := s.nextSequence, time := k.time, card := k.card, household := k.household, container := c,
    fraction := (s.bay c).record.config.fraction, outcome := o,
    applied := if o = .deposit then k.charge else 0,
    after := (s.cardOf k.card).map CardRecord.remaining }

/-- The settlement of an ended cycle (R90). -/
def settle (c : Box) (o : CycleOutcome) (k : Cycle) (s : State) : State :=
  let s := if o = .deposit then s else refund k.card k.charge s
  let s := { s with reserved := s.reserved - 1 }
  appendLog (recordOf s c o k) s

end Sys2Proof.Machine
end

