-- ==== Sys2Proof/Machine/Orders.lean ====
section
/-! DEFINITION. The Order Manager: the order list, its ranking and numbering, creation, offers, the ends
of orders, and the emptying history (Chapter 8). -/

namespace Sys2Proof.Machine

open Sys2Proof

/-- The container's active order (R145). -/
def State.orderOf (s : State) (c : Box) : Option Order :=
  s.orders.find? fun o => o.container == c

/-- The container's active order changed; its place in the list, its age, stays (R145). -/
def State.modOrder (s : State) (c : Box) (f : Order → Order) : State :=
  { s with orders := s.orders.map fun o => if o.container = c then f o else o }

/-- The list in rank order: by priority, highest first, and within one priority oldest first (R145). -/
def ranked (orders : List Order) : List Order :=
  orders.filter (fun o => decide (3 ≤ o.priority)) ++ orders.filter (fun o => o.priority == 2) ++
    orders.filter (fun o => o.priority == 1) ++ orders.filter (fun o => o.priority == 0)

/-- The order number after `n`: from 65535 to 1 (R146). -/
def nextNumber (n : Nat) : Nat :=
  if n < 65535 then n + 1 else 1

/-- The counter advanced past every number held by an order of the list; `fuel` bounds the search by
one more than the number of orders (R146). -/
def freeNumber (orders : List Order) : (fuel : Nat) → Nat → Nat
  | 0, n => n
  | fuel + 1, n =>
    if orders.any (fun o => o.number == n) then freeNumber orders fuel (nextNumber n) else n

/-- The number the next created order takes (R146). -/
def assignedNumber (s : State) : Nat :=
  freeNumber s.orders (s.orders.length + 1) s.orderCounter

/-- A new order takes the next number and the last creation position (R144, R146). -/
def createOrder (make : Nat → Order) (s : State) : State :=
  { s with
    orders := s.orders ++ [make (assignedNumber s)]
    orderCounter := nextNumber (assignedNumber s) }

/-- An order request of the Fill Estimator (R148). -/
def requestOrder (c : Box) (priority : Nat) (unverified : Bool) (s : State) : State :=
  match s.orderOf c with
  | some _ => s
  | none =>
    createOrder (fun n =>
      { number := n, container := c, origin := .auto, priority := priority, label := 0, oneShot := false,
        unverified := unverified, attempts := 0, state := .pending, abortRequested := false,
        vehicle := none }) s

/-- An escalation of the Fill Estimator (R148). -/
def escalate (c : Box) (s : State) : State :=
  s.modOrder c fun o => { o with priority := max o.priority 3 }

/-- The order Post Order creates (R147). -/
def postedOrder (c : Box) (priority label : Nat) (oneShot : Bool) (n : Nat) : Order :=
  { number := n, container := c, origin := .operations, priority := priority, label := label,
    oneShot := oneShot, unverified := false, attempts := 0, state := .pending, abortRequested := false,
    vehicle := none }

/-- A post merged into a Pending or Offered order (R147). -/
def mergePost (priority label : Nat) (oneShot : Bool) (o : Order) : Order :=
  { o with
    priority := max o.priority priority, label := label, oneShot := oneShot, origin := .operations,
    unverified := false, abortRequested := false }

/-- The order a claim of a container without an order creates (R149). -/
def adHocOrder (c : Box) (vehicle n : Nat) : Order :=
  { number := n, container := c, origin := .vehicle, priority := 1, label := 0, oneShot := false,
    unverified := false, attempts := 0, state := .claimed, abortRequested := false,
    vehicle := some vehicle }

/-- A claim binds the container's order, or creates an ad hoc one (R153). -/
def bindOrder (c : Box) (vehicle : Nat) (s : State) : State :=
  match s.orderOf c with
  | some _ => s.modOrder c fun o => { o with state := .claimed, vehicle := some vehicle }
  | none => createOrder (adHocOrder c vehicle) s

/-! ## History -/

/-- An entry is appended; a full history loses its oldest entry and sets Wrapped. HistoryNew is raised by
an append to an empty history and by one that takes Wrapped from clear to set (R163). -/
def appendHistory (e : HistoryEntry) (s : State) : State :=
  if 64 ≤ s.history.length then
    let s' := { s with history := s.history.tail ++ [e], wrapped := true }
    if s.wrapped then s' else raise .historyNew s'
  else
    let s' := { s with history := s.history ++ [e] }
    if s.history.isEmpty then raise .historyNew s' else s'

/-- The history entry of an order (R162). -/
def entryOf (s : State) (o : Order) (outcome : OrderOutcome) (cause : Option FailCause)
    (mass : Option Nat) : HistoryEntry :=
  { number := o.number, label := o.label, container := o.container, origin := o.origin,
    outcome := outcome, mark := o.abortRequested, cause := cause, mass := mass, vehicle := o.vehicle,
    time := stamp s, attempts := o.attempts }

/-- The container's order finishes: it leaves the list and its entry is appended (R160 steps 1 and 2). -/
def finishOrder (c : Box) (outcome : OrderOutcome) (cause : Option FailCause) (mass : Option Nat)
    (s : State) : State :=
  match s.orderOf c with
  | none => s
  | some o =>
    appendHistory (entryOf s o outcome cause mass)
      { s with orders := s.orders.filter fun p => decide (p.container ≠ c) }

/-- An Offered or Claimed order returns to Pending, or finishes as Aborted where abort-requested is set
(R152, R154, R155, R156, R157). -/
def returnOrder (c : Box) (s : State) : State :=
  match s.orderOf c with
  | none => s
  | some o =>
    if o.abortRequested then finishOrder c .aborted none none s
    else s.modOrder c fun p => { p with state := .pending, vehicle := none }

/-- An order is exhausted when it is one-shot or its attempts reach 3 (R159). -/
def isExhausted (o : Order) : Bool :=
  o.oneShot || decide (3 ≤ o.attempts)

/-- An unsuccessful attempt: a Blocked report, or an orphan release (R154, R156). -/
def failAttempt (c : Box) (cause : FailCause) (s : State) : State :=
  let s := s.modOrder c fun o => { o with attempts := o.attempts + 1 }
  match s.orderOf c with
  | none => s
  | some o => if isExhausted o then finishOrder c .failed (some cause) none s else returnOrder c s

/-! ## Offers -/

/-- Whether an order may join the offer to a vehicle of these fractions (R151). -/
def mayOffer (s : State) (fractions : BitVec 8) (o : Order) : Bool :=
  o.state == .pending && inFractions (s.bay o.container).record.config.fraction fractions &&
    (s.bay o.container).hold.emptying.isNone

/-- The containers of the first 8 ranked orders that may be offered (R151). -/
def offerChoice (s : State) (fractions : BitVec 8) : List Box :=
  (((ranked s.orders).filter (mayOffer s fractions)).take 8).map Order.container

/-- The offer is built: each chosen order becomes Offered to the vehicle (R151). -/
def buildOffer (vehicle : Nat) (fractions : BitVec 8) (s : State) : State :=
  let chosen := offerChoice s fractions
  { s with orders := s.orders.map fun o =>
      if chosen.contains o.container then { o with state := .offered, vehicle := some vehicle } else o }

/-- The containers of the Offered orders. -/
def offeredBoxes (s : State) : List Box :=
  (s.orders.filter fun o => o.state == .offered).map Order.container

/-- Every Offered order is returned, in the free order of log entry 8 (R152). -/
def returnOffered (s : State) : State :=
  (freeOrder s.draws (offeredBoxes s)).foldl (fun t c => returnOrder c t) { s with draws := s.draws + 1 }

end Sys2Proof.Machine
end

