-- ==== Sys2Proof/Machine/Estimate.lean ====
section
/-! DEFINITION. The Fill Estimator: effective fill and thresholds, the evaluation, deposit volumes, level
readings, the period correction, emptying results (Chapters 6 and 7). -/

namespace Sys2Proof.Machine

open Sys2Proof

/-! ## Effective fill and thresholds -/

/-- The ceiling of E: floor(5C/4) (R104). -/
def ceiling (k : ContainerConfig) : Nat :=
  5 * k.capacity / 4

/-- A threshold in litres: floor(percent × C / 100) (R135). -/
def litres (percent capacity : Nat) : Nat :=
  percent * capacity / 100

/-- The effective fill F_eff (R133). -/
def effFill (e : Estimate) : Nat :=
  match e.mode with
  | .tracking => e.fill
  | .doubtful =>
    match e.mLast with
    | some m => max e.fill m
    | none => e.fill
  | .blind => e.fill

/-- The effective-fill percent (R133). -/
def effPercent (k : ContainerConfig) (e : Estimate) : Nat :=
  effFill e * 100 / k.capacity

/-- The figures of Chapter 7 as they stand (R133, R143). -/
def fillFigures (b : Bay) : FillFigures :=
  let k := b.record.config
  { mode := b.est.mode, closeFlag := b.est.closeFlag, effFill := effFill b.est, effPercent := effPercent k b.est
    tOrderL := litres k.tOrder k.capacity, tCloseL := litres k.tClose k.capacity
    tReopenL := litres k.tReopen k.capacity }

/-- A container's status with other figures of Chapter 7 (R143). -/
def ContainerStatus.withFigures (v : ContainerStatus) (f : FillFigures) : ContainerStatus :=
  { v with
    est := { v.est with mode := f.mode, closeFlag := f.closeFlag }
    effFill := f.effFill, effPercent := f.effPercent
    tOrderL := f.tOrderL, tCloseL := f.tCloseL, tReopenL := f.tReopenL }

/-- The close flag after an evaluation (R135). -/
def closeFlagAfter (k : ContainerConfig) (fill : Nat) (before : Bool) : Bool :=
  if litres k.tClose k.capacity ≤ fill then true
  else if fill < litres k.tReopen k.capacity then false
  else before

/-- Whether the fill or the mode calls for an order (R137). -/
def callsForOrder (k : ContainerConfig) (e : Estimate) : Bool :=
  decide (litres k.tOrder k.capacity ≤ effFill e) || e.mode == .blind

/-- The evaluation of a container's effective fill (R134): the close flag is updated, then an order
request (R137) or, where the flag was set here, an escalation (R138) is handed on. -/
def evaluate (c : Box) (s : State) : State :=
  let b := s.bay c
  let flag := closeFlagAfter b.record.config (effFill b.est) b.est.closeFlag
  let s := s.modEst c fun e => { e with closeFlag := flag }
  match s.orderOf c with
  | none =>
    if b.record.started && callsForOrder b.record.config b.est then
      requestOrder c (if flag then 3 else 2) (b.est.mode == .blind) s
    else s
  | some _ => if flag && !b.est.closeFlag then escalate c s else s

/-! ## Deposit volumes -/

/-- A deposit volume of V_d litres added to a record (R105 steps 1 to 4). -/
def addVolume (k : ContainerConfig) (e : Estimate) : Estimate :=
  { e with
    fill := min (ceiling k) (e.fill + (k.drum * e.bulk + e.rem) / 256)
    rem := (k.drum * e.bulk + e.rem) % 256
    volume := min 65535 (e.volume + k.drum) }

/-- A deposit volume is handed to the Fill Estimator (R105). -/
def depositVolume (c : Box) (s : State) : State :=
  evaluate c (s.modEst c (addVolume (s.bay c).record.config))

/-! ## Level readings -/

/-- A height converted to litres, to the nearest, a half rounded up (R107). -/
def toLitres (k : ContainerConfig) (h : Nat) : Nat :=
  (min h k.depth * k.capacity + k.depth / 2) / k.depth

/-- The entry that arrived first leaves a window of five (R109). That the other entries are numbered 1 to 4
again is the model's choice: R109 gives the ranks no numbers, and its worked example lets them run on
(log entry 31). -/
def makeRoom (w : List Reading) : List Reading :=
  if 5 ≤ w.length then
    (w.filter fun r => decide (r.rank ≠ 1)).map fun r => { r with rank := r.rank - 1 }
  else w

/-- A reading placed in value order, after those of equal value (R109). -/
def placeReading (r : Reading) : List Reading → List Reading
  | [] => [r]
  | x :: rest => if x.value ≤ r.value then x :: placeReading r rest else r :: x :: rest

/-- A converted reading joins the window (R109). -/
def fileReading (m : Nat) (w : List Reading) : List Reading :=
  placeReading ⟨m, (makeRoom w).length + 1⟩ (makeRoom w)

/-- Whether a reading that arrives now is discarded (R108). -/
def discardsReading (b : Bay) : Bool :=
  !b.record.started || b.hold.requested || b.cycleActive

/-- The level of a Valid uplink: dropped, discarded, or filed (R107, R108, R109). -/
def takeLevel (c : Box) (l : LevelReading) (s : State) : State :=
  match l with
  | .echoLost => s
  | .height h =>
    if discardsReading (s.bay c) then s
    else s.modEst c fun e =>
      { e with window := fileReading (toLitres (s.bay c).record.config h.toNat) e.window }

/-! ## The period correction -/

/-- Step 1: the measurement M, the lower median of three or more entries (R112). -/
def measurement (w : List Reading) : Option Nat :=
  if 3 ≤ w.length then (w[(w.length + 1) / 2 - 1]?).map Reading.value else none

/-- The four period flags cleared, as every correction begins (R111). -/
def clearPeriodFlags (e : Estimate) : Estimate :=
  { e with offsetLimit := false, rateLimit := false, missingMeasure := false, missingRate := false }

/-- Step 1: M_last, S and MissingMeasure; S advances where the period counts (R112, R113). -/
def stepMeasure (m : Option Nat) (counts : Bool) (e : Estimate) : Estimate :=
  match m with
  | some v => { e with mLast := some v, silent := 0 }
  | none => { e with missingMeasure := true, silent := if counts then bump 64 e.silent else e.silent }

/-- The observed bulk factor (R114). -/
def observedBulk (rise volume : Nat) : Nat :=
  min 1023 (rise * 256 / volume)

/-- The rate step before its limit: a quarter of the difference, the fraction dropped towards zero (R114). -/
def rateStep (observed bulk : Nat) : Int :=
  Int.tdiv ((observed : Int) - (bulk : Int)) 4

/-- A step limited in magnitude (R114). -/
def limitStep (limit : Nat) (step : Int) : Int :=
  max (-(limit : Int)) (min (limit : Int) step)

/-- Step 2: the bulk factor (R114). -/
def stepRate (k : ContainerConfig) (m : Option Nat) (e : Estimate) : Estimate :=
  match m, e.mPrev with
  | some v, some p =>
    if k.vmin ≤ e.volume ∧ p < v then
      let step := rateStep (observedBulk (v - p) e.volume) e.bulk
      { e with
        bulk := clampTo 64 512 ((e.bulk : Int) + limitStep k.kmax step).toNat
        rateLimit := decide (limitStep k.kmax step ≠ step) }
    else { e with missingRate := true }
  | _, _ => { e with missingRate := true }

/-- Step 3: the offset (R115). -/
def stepOffset (k : ContainerConfig) (m : Option Nat) (e : Estimate) : Estimate :=
  match m with
  | none => e
  | some v =>
    if e.fill ≤ v + k.omax ∧ v ≤ e.fill + k.omax then { e with fill := v }
    else if e.fill < v then { e with fill := e.fill + k.omax, offsetLimit := true }
    else { e with fill := e.fill - k.omax, offsetLimit := true }

/-- Steps 4 and 5: the pending adjustment, and E brought into 0..floor(5C/4) (R116). -/
def stepAdjust (k : ContainerConfig) (e : Estimate) : Estimate :=
  { e with fill := min (ceiling k) ((e.fill : Int) + e.adjust).toNat, adjust := 0 }

/-- Step 6: the counters F and clean (R117). -/
def stepCounters (m : Option Nat) (e : Estimate) : Estimate :=
  if e.rateLimit || e.offsetLimit then { e with fails := bump 15 e.fails, clean := 0 }
  else if m.isSome then { e with fails := 0, clean := bump 31 e.clean }
  else e

/-- Step 7: pairing, and the window cleared (R118). -/
def stepPairing (m : Option Nat) (e : Estimate) : Estimate :=
  match m with
  | some v => { e with mPrev := some v, volume := 0, window := [] }
  | none => { e with window := [] }

/-- The mode after step 8 (R130). -/
def modeAfter (k : ContainerConfig) (e : Estimate) : TrustMode :=
  match e.mode with
  | .tracking =>
    if k.fBlind ≤ e.fails ∨ k.sBlind ≤ e.silent then .blind
    else if k.fDoubt ≤ e.fails then .doubtful
    else .tracking
  | .doubtful =>
    if k.fBlind ≤ e.fails ∨ k.sBlind ≤ e.silent then .blind
    else if k.rClean ≤ e.clean then .tracking
    else .doubtful
  | .blind => .blind

/-- Steps 1 to 7 of a period correction and the change of mode of step 8 (R111 to R119, R130). -/
def correctRecord (k : ContainerConfig) (counts : Bool) (e : Estimate) : Estimate :=
  let m := measurement e.window
  let e := stepPairing m (stepCounters m (stepAdjust k (stepOffset k m (stepRate k m
    (stepMeasure m counts (clearPeriodFlags e))))))
  { e with mode := modeAfter k e }

/-- Whether an unmeasured period counts into S: the bus Active or Woken and no hold requested (R113). -/
def periodCounts (s : State) (c : Box) : Bool :=
  (match s.bus.state with
    | .active => true
    | .woken => true
    | .draining => false
    | .quiet => false
    | .blocked => false) && !(s.bay c).hold.requested

/-- The period correction of one container (R111, R119), EstimateBlind raised where it moves the mode to
Blind (R131). -/
def correct (c : Box) (s : State) : State :=
  let before := (s.bay c).est.mode
  let t := s.modEst c (correctRecord (s.bay c).record.config (periodCounts s c))
  evaluate c (if (t.bay c).est.mode = .blind ∧ before ≠ .blind then raise .estimateBlind t else t)

/-- A period tick: every started container is corrected, in ascending number (R17, R111). -/
def periodTick (s : State) : State :=
  allBoxes.foldl (fun t c => if (t.bay c).record.started then correct c t else t) s

/-! ## Emptying results and commands -/

/-- The record with its measuring restarted: M_prev, M_last, ΣV and the window (R122, R123, R125, R4). -/
def restartMeasuring (e : Estimate) : Estimate :=
  { e with mPrev := none, mLast := none, volume := 0, window := [] }

/-- The record set outright to a fill (R122, R125). -/
def setOutright (fill : Nat) (e : Estimate) : Estimate :=
  { restartMeasuring e with
    fill := fill, rem := 0, fails := 0, clean := 0, silent := 0, adjust := 0, mode := .tracking }

/-- The record after a Partial result (R123). -/
def halve (e : Estimate) : Estimate :=
  { restartMeasuring e with
    fill := e.fill / 2, clean := 0
    mode := match e.mode with
      | .tracking => .doubtful
      | .doubtful => .doubtful
      | .blind => .blind }

/-- An Emptied result (R122). -/
def emptiedResult (c : Box) (s : State) : State :=
  evaluate c (s.modEst c (setOutright (s.bay c).record.config.residual))

/-- A Partial result (R123). -/
def partialResult (c : Box) (s : State) : State :=
  evaluate c (s.modEst c halve)

end Sys2Proof.Machine
end

