-- ==== Sys2Proof/Machine/Hatch.lean ====
section
/-! DEFINITION. The Hatch Cycle Unit: drum turns, hatch reports, close demands, and the end of a cycle with
what it hands to the other blocks (Chapter 3). -/

namespace Sys2Proof.Machine

open Sys2Proof

/-- A close demand starts, unless one stands; its T_cl is held while the column cannot report (R55, R57, R60). -/
def startDemand (c : Box) (s : State) : State :=
  s.modHatch c fun h =>
    { h with demand := match h.demand with
        | some t => some t
        | none =>
          if (s.bay c).column.lost || !isPolling s.bus then some .held else some (.running s.settings.tCl) }

/-- Why a cycle ends, as far as the steps of its end depend on it (R59, R61, R64). -/
inductive EndCause where
  | closedReport | forcedEnd | resetEnd | other
deriving DecidableEq, Repr

/-- Step 6 of a cycle's end at the bus: a Draining bus with no active cycle becomes Quiet (R36). -/
def reportEndToBus (s : State) : State :=
  if s.bus.state = .draining ∧ (activeBoxes s).isEmpty = true then enterQuiet s else s

/-- Step 6 of a cycle's end at the hold record: T_q stops, and a forced end sets the forced mark (R183). -/
def endQuiescence (cause : EndCause) (h : Hold) : Hold :=
  if h.requested then { h with tQ := none, forced := h.forced || cause == .forcedEnd } else h

/-- Step 5 of a cycle's end: a close demand starts, but for an end by a Closed report or a service reset
(R55, R64). -/
def demandAtEnd (c : Box) (cause : EndCause) (s : State) : State :=
  match cause with
  | .closedReport => s
  | .resetEnd => s
  | .forcedEnd => startDemand c s
  | .other => startDemand c s

/-- Step 4 of a cycle's end: the nominal volume of an Unconfirmed end without a confirmed deposit (R60). -/
def volumeAtEnd (c : Box) (o : CycleOutcome) (k : Cycle) (s : State) : State :=
  if o = .unconfirmed ∧ k.confirmed = false then depositVolume c s else s

/-- Steps 1 and 2 of a cycle's end: the record and its timers go, the card leaves the open-card set (R59). -/
def dropCycle (c : Box) (k : Cycle) (s : State) : State :=
  let s := s.modHatch c fun h => { h with cycle := none, tOw := none, tDep := none }
  { s with openCards := s.openCards.erase k.card }

/-- The container's active hatch cycle, if there is one, ends (R59). -/
def endCycle (c : Box) (o : CycleOutcome) (cause : EndCause) (s : State) : State :=
  match (s.bay c).hatch.cycle with
  | none => s
  | some k =>
    (reportEndToBus (demandAtEnd c cause (volumeAtEnd c o k (settle c o k (dropCycle c k s))))).modHold c
      (endQuiescence cause)

/-- The outcome of an end that keeps the charge of a confirmed deposit: Deposit, or else `other` (R56, R61). -/
def outcomeBy (k : Cycle) (other : CycleOutcome) : CycleOutcome :=
  if k.confirmed then .deposit else other

/-- A HatchJam request: the attribute, then the end of an active cycle (R56). -/
def requestHatchJam (c : Box) (s : State) : State :=
  let s := setHatchJam c s
  match (s.bay c).hatch.cycle with
  | none => s
  | some k => endCycle c (outcomeBy k .noDeposit) .other s

/-- A forced end, requested at the expiry of T_q (R61, R182). -/
def forcedEnd (c : Box) (s : State) : State :=
  match (s.bay c).hatch.cycle with
  | none => s
  | some k => endCycle c (outcomeBy k .cut) .forcedEnd s

/-! ## Drum turns -/

/-- The turns an uplink's drum count stands for (R50). -/
def turnsOf (baseline : Option Nat) (returned : Bool) (count : Nat) : Nat :=
  match baseline with
  | none => 0
  | some b =>
    if returned then 0
    else if (count + 256 - b) % 256 ≤ 15 then (count + 256 - b) % 256 else 0

/-- A confirmed deposit (R53). -/
def confirmDeposit (c : Box) (k : Cycle) (s : State) : State :=
  let s := s.modHatch c fun h =>
    { h with cycle := some { k with phase := .deposited, confirmed := true }, tOw := none, tDep := none }
  startDemand c (depositVolume c s)

/-- A stray turn (R54). -/
def strayTurn (c : Box) (s : State) : State :=
  (depositVolume c s).modHatch c fun h => { h with stray := bump 65535 h.stray }

/-- One drum turn: the first turn of a cycle in Granted or Opened is its deposit, every other is stray (R51). -/
def takeTurn (c : Box) (s : State) : State :=
  match (s.bay c).hatch.cycle with
  | none => strayTurn c s
  | some k => if k.phase = .deposited then strayTurn c s else confirmDeposit c k s

/-- Turns taken one after another (R50). -/
def takeTurns (c : Box) : Nat → State → State
  | 0, s => s
  | n + 1, s => takeTurns c n (takeTurn c s)

/-! ## Hatch reports -/

/-- A close demand is met by a Closed report (R55). -/
def meetDemand (c : Box) (s : State) : State :=
  s.modHatch c fun h => { h with demand := none }

/-- A Closed report ends a cycle in Opened or Deposited (R51). -/
def closedEnds (c : Box) (s : State) : State :=
  match (s.bay c).hatch.cycle with
  | none => s
  | some k =>
    match k.phase with
    | .granted => s
    | .opened => endCycle c .noDeposit .closedReport s
    | .deposited => endCycle c .deposit .closedReport s

/-- An Open report takes Granted to Opened: T_ow stops, T_dep starts (R51, R52). -/
def openedReport (c : Box) (s : State) : State :=
  match (s.bay c).hatch.cycle with
  | none => s
  | some k =>
    if k.phase = .granted then
      s.modHatch c fun h =>
        { h with cycle := some { k with phase := .opened }, tOw := none, tDep := some s.settings.tDep }
    else s

/-- The hatch state of a Valid uplink against the phase the cycle has reached (R51). -/
def hatchReport (c : Box) (h : HatchState) (s : State) : State :=
  match h with
  | .closed => meetDemand c (closedEnds c s)
  | .opening => s
  | .opened => openedReport c s
  | .closing => s
  | .jammed => requestHatchJam c s

/-- The hatch part of a Valid uplink: drum count first, hatch state after it; at a return, a T_cl still
held starts again, polling not being stopped (R27 step 3, R50, R51, R57; log entry 14). -/
def takeHatch (c : Box) (returned : Bool) (u : Uplink) (s : State) : State :=
  let turns := turnsOf (s.bay c).hatch.baseline returned u.drum.toNat
  let s := s.modHatch c fun h => { h with baseline := some u.drum.toNat }
  let s := hatchReport c u.hatch (takeTurns c turns s)
  if returned && isPolling s.bus then s.modHatch c (resumeDemand s.settings.tCl) else s

/-! ## Entry to Blocked -/

/-- One cycle ended by the entry to Blocked: Unconfirmed, and the drum baseline unset (R60). -/
def endBlocked (s : State) (c : Box) : State :=
  (endCycle c .unconfirmed .other s).modHatch c fun h => { h with baseline := none }

/-- The bus itself at the entry to Blocked (R42). -/
def blockedBus (b : Bus) : Bus :=
  { b with
    state := .blocked, tInact := none, qualifier := .off, slots := []
    target := some (if b.state = .active then .active else .quiet) }

/-- Entry to Blocked (R42): transmission stops, every active cycle ends Unconfirmed in the free order of
log entry 8, polling stops, StuckSeen is set and LineStuck raised. -/
def enterBlocked (s : State) : State :=
  let ends := freeOrder s.draws (activeBoxes s)
  let s := { s with bus := blockedBus s.bus, draws := s.draws + 1 }
  let s := (ends.foldl endBlocked s).mapBays stopPollingBay
  raise .lineStuck (setBusFlag .stuckSeen s)

end Sys2Proof.Machine
end

