-- ==== Sys2Proof/Machine/Access.lean ====
section
/-! DEFINITION. The Access Unit: the decision of a presentation, denial and grant (Chapter 4). -/

namespace Sys2Proof.Machine

open Sys2Proof

/-- The place of a denial reason among the counters, in the order of the checks (R72, R83). -/
def reasonIndex (r : DenialReason) : Fin 11 :=
  match r with
  | .unknownCard => 0
  | .cardBlocked => 1
  | .wrongCluster => 2
  | .wrongFraction => 3
  | .outOfService => 4
  | .containerFull => 5
  | .curfew => 6
  | .busy => 7
  | .cardInUse => 8
  | .noAllowance => 9
  | .logFull => 10

/-- Whether a presentation handled now carries the draining mark (R28). -/
def drainingMark (b : Bus) : Bool :=
  b.state == .draining || b.state == .quiet

/-- Check 5, the service check (R74). -/
def outOfService (b : Bay) (draining : Bool) : Bool :=
  match opState b with
  | .dormant => true
  | .quiescing => true
  | .held => true
  | .inFault => true
  | .fullClosed => draining
  | .opened => draining

/-- Checks 2 to 11 for a card that is known: the first that fails gives the reason (R72). -/
def denialOfKnown (s : State) (c : Box) (k : CardRecord) (draining : Bool) : Option DenialReason :=
  let b := s.bay c
  if k.status ≠ .active then some .cardBlocked
  else if k.clusters.getLsbD b.record.config.cluster = false then some .wrongCluster
  else if inFractions b.record.config.fraction k.fractions = false then some .wrongFraction
  else if outOfService b draining then some .outOfService
  else if opState b = .fullClosed then some .containerFull
  else if underCurfew s b.record.config.fraction then some .curfew
  else if b.cycleActive then some .busy
  else if s.openCards.contains k.number then some .cardInUse
  else if k.remaining < b.record.config.charge then some .noAllowance
  else if 1024 ≤ s.log.length + s.reserved then some .logFull
  else none

/-- What a denial does beside its answer (R77, R78, R83, R6). -/
def deny (c : Box) (r : DenialReason) (s : State) : State :=
  let s := { s with denials := s.denials.set (reasonIndex r) (bump 65535 s.denials[reasonIndex r]) }
  s.modRecord c fun q => { q with tally := bump 65535 q.tally }

/-- The sighting of a Lost card (R78). -/
def sight (c : Box) (k : CardRecord) (s : State) : State :=
  if k.status = .lost then
    raise .lostCardSeen { s with sighting := some ⟨k.number, k.household, c, stamp s⟩ }
  else s

/-- The hatch record a grant creates: the cycle in Granted, T_ow started, a standing close demand
withdrawn (R47). -/
def openCycle (k : CardRecord) (charge tOw : Nat) (time : Option Stamp) (h : Hatch) : Hatch :=
  { h with
    cycle := some ⟨k.number, k.household, charge, time, .granted, false⟩
    tOw := some tOw, tDep := none, demand := none }

/-- The hand-off of a grant (R79). -/
def grant (c : Box) (k : CardRecord) (s : State) : State :=
  let charge := (s.bay c).record.config.charge
  let s := reserve k.number charge { s with openCards := s.openCards ++ [k.number] }
  s.modHatch c (openCycle k charge s.settings.tOw (stamp s))

/-- A presentation decided: the answer's code, and the state with the decision's effects (R72, R77, R79). -/
def decidePresentation (c : Box) (card : Nat) (draining : Bool) (s : State) : DisplayCode × State :=
  match s.cardOf card with
  | none => (.denied .unknownCard, deny c .unknownCard s)
  | some k =>
    match denialOfKnown s c k draining with
    | some .cardBlocked => (.denied .cardBlocked, sight c k (deny c .cardBlocked s))
    | some r => (.denied r, deny c r s)
    | none => (.granted, grant c k s)

end Sys2Proof.Machine
end

