-- ==== Sys2Proof/Machine/Slot.lean ====
section
/-! DEFINITION. The end of a slot: its outcome, column supervision, and the handling of a Valid uplink
(Chapter 2). -/

namespace Sys2Proof.Machine

open Sys2Proof

/-- The outcome of a slot (R24). -/
inductive SlotOutcome where
  | valid (u : Uplink) | garbled | overrun | silent
deriving DecidableEq, Repr

/-- The outcome from what was received in the slot of column `c` (R24). -/
def slotOutcome (c : Box) (rx : SlotRx) : SlotOutcome :=
  match rx with
  | .nothing => .silent
  | .unfinished => .overrun
  | .complete u checkMatches => if checkMatches && u.echo == c then .valid u else .garbled

/-! ## A Valid uplink -/

/-- A column returns: the lost mark and a ColumnLost attribute are cleared (R31). -/
def columnReturn (c : Box) (s : State) : State :=
  let s := s.modColumn c fun k => { k with lost := false }
  s.modRecord c fun r => { r with fault := if r.fault = .columnLost then .none else r.fault }

/-- The last uplink an uplink leaves (R32). -/
def lastOf (u : Uplink) : LastUplink :=
  ⟨u.hatch, u.drum.toNat, u.card.map BitVec.toNat, u.level⟩

/-- Whether the pending answer is delivered: this slot's downlink carried it, and the Valid uplink does not
carry its card number (R28). -/
def isDelivered (k : Column) (card : Option Nat) : Bool :=
  match k.answer with
  | none => false
  | some a => (k.downlink.bind Downlink.tag) == some a.card && card != some a.card

/-- The denial display that the delivery of an answer starts (R80). -/
def displayAfterDelivery (k : Column) (before : Option DenialReason) : Option DenialReason :=
  match k.answer with
  | some ⟨_, .denied r⟩ => some r
  | _ => before

/-- The delivery of a pending answer (R28, R80). -/
def deliver (c : Box) (card : Option Nat) (s : State) : State :=
  if isDelivered (s.bay c).column card then
    s.modBay c fun b =>
      { b with column := { b.column with answer := none }, display := displayAfterDelivery b.column b.display }
  else s

/-- A new presentation: T_inact restarts in Woken, the denial display ends, the Access Unit decides, and
its answer becomes the column's pending answer (R28, R40, R80). -/
def newPresentation (c : Box) (card : Nat) (s : State) : State :=
  let s := if s.bus.state = .woken then
      { s with bus := { s.bus with tInact := some s.settings.tInact } } else s
  let s := s.setDisplay c none
  let d := decidePresentation c card (drainingMark s.bus) s
  d.2.modColumn c fun k => { k with answer := some ⟨card, d.1⟩ }

/-- Step 5 of a Valid uplink: delivery, then the presentation it carries (R27, R28). -/
def takePresentation (c : Box) (card : Option Nat) (s : State) : State :=
  let s := deliver c card s
  match card with
  | none => s
  | some n => if (s.bay c).column.answer.map Answer.card = some n then s else newPresentation c n s

/-- The handling of a Valid uplink, step by step (R27). -/
def validUplink (c : Box) (u : Uplink) (s : State) : State :=
  let returned := (s.bay c).column.lost
  let s := s.modColumn c fun k => { k with consecutive := 0 }
  let s := if returned then columnReturn c s else s
  let s := s.modColumn c fun k => { k with last := some (lastOf u) }
  let s := takeHatch c returned u s
  let s := match u.level with
    | some l => takeLevel c l s
    | none => s
  takePresentation c (u.card.map BitVec.toNat) s

/-! ## A slot without a Valid uplink -/

/-- A column is marked lost (R30): ColumnLost is requested, T_cl is held, its cycle ends Unconfirmed, its
pending answer is dropped and its denial display ends (R57, R80). -/
def markLost (c : Box) (s : State) : State :=
  let s := s.modColumn c fun k => { k with lost := true }
  let s := s.modHatch c fun h => { h with demand := h.demand.map holdTimer }
  let s := endCycle c .unconfirmed .other (requestColumnLost c s)
  s.modBay c fun b => { b with column := { b.column with answer := none }, display := none }

/-- A Garbled, Overrun or Silent slot is counted, and a column that reaches N_lost is marked lost (R29, R30). -/
def nonValidSlot (c : Box) (s : State) : State :=
  let s := s.modColumn c fun k =>
    { k with consecutive := bump 15 k.consecutive, total := bump 65535 k.total }
  if (s.bay c).column.lost = false ∧ s.settings.nLost ≤ (s.bay c).column.consecutive then markLost c s else s

/-- The outcome of a column's slot is counted, flagged and acted on (R24, R33). -/
def handleSlot (c : Box) (rx : SlotRx) (s : State) : State :=
  match slotOutcome c rx with
  | .valid u => validUplink c u (setBusFlag .validSeen s)
  | .garbled => nonValidSlot c (setBusFlag .garbledSeen s)
  | .overrun => nonValidSlot c (setBusFlag .overrunSeen s)
  | .silent => nonValidSlot c (setBusFlag .silentSeen s)

/-- A slot ends (R23, R24): a column's slot has its outcome handled, a padding slot has none; then the next
slot or cycle starts. With no slot in progress nothing happens. -/
def slotEnds (rx : SlotRx) (s : State) : State :=
  match s.bus.slots with
  | [] => s
  | none :: _ => nextSlot s
  | some c :: _ => nextSlot (handleSlot c rx s)

/-- SLOT_END (R24): the slot in progress ends. -/
def execSlotEnd (rx : SlotRx) (s : State) : Host.Outcome State Fault Refusal :=
  .next (slotEnds rx s)

end Sys2Proof.Machine
end

