-- ==== Sys2Proof/Machine/Holds.lean ====
section
/-! DEFINITION. Holds: claim states, the start of quiescence, the end of a hold's last source, and the
dock's end (Chapter 9). -/

namespace Sys2Proof.Machine

open Sys2Proof

/-- The claim state of a hold, or the hold state of a service hold (R170, R180). -/
def claimState (b : Bay) : ClaimState :=
  if b.cycleActive then .quiescing else if b.hold.forced then .heldForced else .held

/-- T_q starts where a source is set during a cycle and T_q does not run (R177, R180, R182). -/
def startQuiescence (cycleActive : Bool) (len : Nat) (h : Hold) : Hold :=
  if cycleActive && h.tQ.isNone then { h with tQ := some len } else h

/-- When no source remains, T_q stops and the forced mark is cleared (R176, R179 steps 3 and 4, R184). -/
def settleSources (h : Hold) : Hold :=
  if h.requested then h else { h with tQ := none, forced := false }

/-- The emptying source cleared, with the orphan and reported marks (R179 step 1). -/
def clearEmptying (h : Hold) : Hold :=
  { h with emptying := none, orphan := false, reported := false }

/-- The emptying source set by a claim; the forced mark stays only under a standing service hold
(R177; log entry 19). -/
def claimHold (vehicle : Nat) (cycleActive : Bool) (len : Nat) (h : Hold) : Hold :=
  startQuiescence cycleActive len
    { h with emptying := some vehicle, orphan := false, reported := false, forced := h.service && h.forced }

/-- The order number of a container's order while it is Claimed under an id (R170). -/
def claimedNumber (s : State) (c : Box) (vehicle : Nat) : Option Nat :=
  match s.orderOf c with
  | none => none
  | some o => if o.state = .claimed ∧ o.vehicle = some vehicle then some o.number else none

/-- The hold list entry of a container (R170). -/
def holdEntry (s : State) (vehicle : Nat) (c : Box) : HoldEntry :=
  ⟨c, claimState (s.bay c), claimedNumber s c vehicle, (s.bay c).hold.reported⟩

/-- The containers whose emptying source is set under an id, in ascending number (R170). -/
def heldBoxes (s : State) (vehicle : Nat) : List Box :=
  allBoxes.filter fun c => (s.bay c).hold.emptying == some vehicle

/-- The hold list of a vehicle id (R170). -/
def holdList (s : State) (vehicle : Nat) : List HoldEntry :=
  (heldBoxes s vehicle).map (holdEntry s vehicle)

/-- The orphan marks of a vehicle's holds set or cleared (R171 step 3, R174 step 2). -/
def markOrphans (vehicle : Nat) (mark : Bool) (s : State) : State :=
  s.mapBays fun b =>
    if b.hold.emptying = some vehicle then { b with hold := { b.hold with orphan := mark } } else b

/-- The dock ends: offered orders are returned, holds become orphans, the record goes, Undock is raised
(R174 steps 1 to 4). -/
def endDock (vehicle : Nat) (s : State) : State :=
  raise .undock { markOrphans vehicle true (returnOffered s) with dock := none }

/-- An entry of the offer (R171). -/
def offerEntry (s : State) (o : Order) : OfferEntry :=
  let k := (s.bay o.container).record.config
  ⟨o.number, o.container, k.cluster, k.fraction, o.priority, o.unverified,
   effPercent k (s.bay o.container).est⟩

/-- The offer as a reply carries it, in rank order (R171, R172). -/
def offerList (s : State) : List OfferEntry :=
  ((ranked s.orders).filter fun o => o.state == .offered).map (offerEntry s)

end Sys2Proof.Machine
end

