-- ==== Sys2Proof/Machine/Vehicle.lean ====
section
/-! DEFINITION. The vehicle link: the seven messages, an unknown message, a discarded frame, and the expiry
of T_dock (Chapter 9). -/

namespace Sys2Proof.Machine

open Sys2Proof

/-- What a message comes to: the state it leaves, the status of the reply, and what the reply carries
beside the hold list. -/
structure Handled where
  state : State
  status : LinkStatus
  body : ReplyBody := .nothing
deriving DecidableEq, Repr

/-- A message answered with a status other than OK changes no order, hold or dock record (R168). -/
def turnAway (status : LinkStatus) (s : State) : Handled :=
  ⟨s, status, .nothing⟩

/-- A frame taken from the docked id restarts T_dock, whatever its status (R168, R169). -/
def restartDock (vid : Half) (s : State) : State :=
  match s.dock with
  | none => s
  | some d => if d.vehicle = vid.toNat then { s with dock := some { d with tDock := s.settings.tDock } } else s

/-- A taken frame: T_dock, the message, and the reply with the hold list of the sender's id as it then
stands (R168, R170). -/
def answerMessage (vid : Half) (act : State → Handled) (s : State) : State :=
  let h := act (restartDock vid s)
  { h.state with reply := some ⟨h.status, holdList h.state vid.toNat, h.body⟩ }

/-- The dock record of a vehicle, if it is the one docked (R172, R177). -/
def dockedAs (vid : Half) (s : State) : Option DockRecord :=
  s.dock.filter fun d => d.vehicle == vid.toNat

/-- The container a message names, if the frame is in order as far as every message asks (R168). -/
def messageBox (fits : Bool) (vid : Half) (c : Byte) : Option Box :=
  if fits && vid != 0#16 then boxOf c else none

/-- DOCK taken (R171 steps 1 to 4). -/
def dockVehicle (vid : Half) (fractions : Byte) (s : State) : State :=
  let s := raise .dock { s with dock := some ⟨vid.toNat, fractions, s.settings.tDock⟩ }
  buildOffer vid.toNat fractions (markOrphans vid.toNat false s)

/-- DOCK (R171). -/
def handleDock (fits : Bool) (vid : Half) (fractions : Byte) (s : State) : Handled :=
  if !fits || vid == 0#16 || fractions == 0#8 || !isFractionSet fractions then turnAway .badMessage s
  else if s.dock.isSome then turnAway .dockBusy s
  else
    let s := dockVehicle vid fractions s
    ⟨s, .ok, .offer (offerList s)⟩

/-- REFRESH (R172). -/
def handleRefresh (fits : Bool) (vid : Half) (s : State) : Handled :=
  if !fits || vid == 0#16 then turnAway .badMessage s
  else match dockedAs vid s with
    | none => turnAway .notDocked s
    | some d =>
      let s := buildOffer d.vehicle d.fractions (returnOffered s)
      ⟨s, .ok, .offer (offerList s)⟩

/-- STATUS (R173). -/
def handleStatus (fits : Bool) (vid : Half) (s : State) : Handled :=
  if !fits || vid == 0#16 then turnAway .badMessage s else ⟨s, .ok, .nothing⟩

/-- UNDOCK (R174). -/
def handleUndock (fits : Bool) (vid : Half) (s : State) : Handled :=
  if !fits || vid == 0#16 then turnAway .badMessage s
  else match dockedAs vid s with
    | none => turnAway .notDocked s
    | some d => ⟨endDock d.vehicle s, .ok, .nothing⟩

/-- A claim taken (R177): the order is bound, the emptying source set. -/
def takeClaim (vehicle : Nat) (c : Box) (s : State) : State :=
  (bindOrder c vehicle s).modHold c (claimHold vehicle (s.bay c).cycleActive s.settings.tQ)

/-- What a claim reply carries (R177). -/
def claimBody (vehicle : Nat) (c : Box) (s : State) : ReplyBody :=
  .claimed c (claimState (s.bay c)) (claimedNumber s c vehicle)

/-- CLAIM (R177). -/
def handleClaim (fits : Bool) (vid : Half) (c : Byte) (s : State) : Handled :=
  match messageBox fits vid c with
  | none => turnAway .badMessage s
  | some c =>
    match dockedAs vid s with
    | none => turnAway .notDocked s
    | some d =>
      if !(s.bay c).record.started then turnAway .notStarted s
      else if !inFractions (s.bay c).record.config.fraction d.fractions then turnAway .wrongFraction s
      else match (s.bay c).hold.emptying with
        | some v => if v = d.vehicle then ⟨s, .ok, claimBody d.vehicle c s⟩ else turnAway .heldOther s
        | none =>
          let s := takeClaim d.vehicle c s
          ⟨s, .ok, claimBody d.vehicle c s⟩

/-- Whether a lift report is accepted (R178). -/
def reportAccepted (vehicle : Nat) (c : Box) (s : State) : Bool :=
  (s.bay c).hold.emptying == some vehicle && (claimedNumber s c vehicle).isSome &&
    !(s.bay c).hold.reported

/-- An accepted report of Emptied (R154, R122). -/
def reportEmptied (c : Box) (mass : Half) (s : State) : State :=
  emptiedResult c (finishOrder c .emptied none (some mass.toNat) s)

/-- An accepted report of Partial (R154, R123). -/
def reportPartial (c : Box) (mass : Half) (s : State) : State :=
  partialResult c (finishOrder c .partLifted none (some mass.toNat) s)

/-- LIFT_REPORT (R178): the reported mark, then what the outcome gives (R154). -/
def handleLift (fits : Bool) (vid : Half) (c : Byte) (outcome : LiftCode) (mass : Half) (s : State) :
    Handled :=
  match messageBox fits vid c with
  | none => turnAway .badMessage s
  | some c =>
    if outcome = .other then turnAway .badMessage s
    else match dockedAs vid s with
      | none => turnAway .notDocked s
      | some d =>
        if !reportAccepted d.vehicle c s then turnAway .noClaim s
        else
          let t := s.modHold c fun h => { h with reported := true }
          let t := match outcome with
            | .emptied => reportEmptied c mass t
            | .partLifted => reportPartial c mass t
            | .blocked => failAttempt c .blocked t
            | .other => t
          ⟨t, .ok, .lifted (claimedNumber s c d.vehicle) outcome⟩

/-- RELEASE taken (R179 steps 1 to 4): the order, if still Claimed under the id, is returned (R155). -/
def releaseClaim (vehicle : Nat) (c : Box) (s : State) : State :=
  let t := s.modHold c clearEmptying
  let t := if (claimedNumber s c vehicle).isSome then returnOrder c t else t
  t.modHold c settleSources

/-- RELEASE (R179). -/
def handleRelease (fits : Bool) (vid : Half) (c : Byte) (s : State) : Handled :=
  match messageBox fits vid c with
  | none => turnAway .badMessage s
  | some c =>
    match dockedAs vid s with
    | none => turnAway .notDocked s
    | some d =>
      if (s.bay c).hold.emptying = some d.vehicle then ⟨releaseClaim d.vehicle c s, .ok, .nothing⟩
      else turnAway .notHeld s

/-! ## The commands -/

/-- VEHICLE_FRAME_DISCARDED: no reply and no effect (R168). -/
def execVehicleFrameDiscarded (s : State) : Host.Outcome State Fault Refusal :=
  .next s

/-- UNKNOWN_MESSAGE: answered BAD_MESSAGE (R168). -/
def execUnknownMessage (vid : Half) (s : State) : Host.Outcome State Fault Refusal :=
  .next (answerMessage vid (turnAway .badMessage) s)

/-- DOCK (R171). -/
def execDock (fits : Bool) (vid : Half) (fractions : Byte) (s : State) : Host.Outcome State Fault Refusal :=
  .next (answerMessage vid (handleDock fits vid fractions) s)

/-- REFRESH (R172). -/
def execRefresh (fits : Bool) (vid : Half) (s : State) : Host.Outcome State Fault Refusal :=
  .next (answerMessage vid (handleRefresh fits vid) s)

/-- STATUS (R173). -/
def execStatus (fits : Bool) (vid : Half) (s : State) : Host.Outcome State Fault Refusal :=
  .next (answerMessage vid (handleStatus fits vid) s)

/-- UNDOCK (R174). -/
def execUndock (fits : Bool) (vid : Half) (s : State) : Host.Outcome State Fault Refusal :=
  .next (answerMessage vid (handleUndock fits vid) s)

/-- CLAIM (R177). -/
def execClaim (fits : Bool) (vid : Half) (c : Byte) (s : State) : Host.Outcome State Fault Refusal :=
  .next (answerMessage vid (handleClaim fits vid c) s)

/-- LIFT_REPORT (R178). -/
def execLiftReport (fits : Bool) (vid : Half) (c : Byte) (outcome : LiftCode) (mass : Half) (s : State) :
    Host.Outcome State Fault Refusal :=
  .next (answerMessage vid (handleLift fits vid c outcome mass) s)

/-- RELEASE (R179). -/
def execRelease (fits : Bool) (vid : Half) (c : Byte) (s : State) : Host.Outcome State Fault Refusal :=
  .next (answerMessage vid (handleRelease fits vid c) s)

/-- T_DOCK_EXPIRY: the dock ends and no reply is sent (R174). With no vehicle docked nothing happens. -/
def execTDockExpiry (s : State) : Host.Outcome State Fault Refusal :=
  .next (match s.dock with
    | none => s
    | some d => endDock d.vehicle s)

end Sys2Proof.Machine
end

