-- ==== Sys2Proof/Machine/Port.lean ====
section
/-! DEFINITION. The operations port: the Summary byte, frames, and how a taken command is carried out,
waits, and completes (sections 10.1 and 10.3); the events of the frame. -/

namespace Sys2Proof.Machine

open Sys2Proof

/-! ## The Summary byte -/

/-- The bus state as the Summary byte shows it (R203). -/
def busStateCode (b : BusState) : BitVec 2 :=
  match b with
  | .active => 0#2
  | .woken => 0#2
  | .draining => 1#2
  | .quiet => 2#2
  | .blocked => 3#2

/-- At least one container has a fault attribute other than None (R193). -/
def anyFault (s : State) : Bool :=
  allBoxes.any fun c => (s.bay c).record.fault != .none

/-- The Summary byte formed from the state as it stands (R193, R203). -/
def summaryByte (s : State) : Byte :=
  BitVec.ofBool (attentionCondition s.port) ++ BitVec.ofBool (decide (768 ≤ s.log.length)) ++
    BitVec.ofBool (anyFault s) ++ BitVec.ofBool s.dock.isSome ++ busStateCode s.bus.state ++
    BitVec.ofBool (!s.clock.set) ++ BitVec.ofBool s.port.discarded

/-! ## Taking a command -/

/-- What carrying out a command comes to: the state it leaves and its response. -/
structure Carried where
  state : State
  response : Response
deriving DecidableEq, Repr

/-- A command that answers with a status and data. -/
def answer (status : Status) (data : RespData) (s : State) : Carried :=
  ⟨s, ⟨status, data⟩⟩

/-- A refused command changes nothing and carries no data (R191). -/
def refuse (status : Status) (s : State) : Carried :=
  answer status .nothing s

/-- OK, or OK_CLAMPED where a carried value was brought to its range (R191). -/
def okIf (clamped : Bool) : Status :=
  if clamped then .okClamped else .ok

/-- The length check of a known command (R191 check 2). -/
def withLength (len : Byte) (n : Nat) (carry : State → Carried) (s : State) : Carried :=
  if len.toNat = n then carry s else refuse .badLength s

/-- The container check that opens most commands of one container (R192). -/
def withBox (c : Byte) (carry : Box → State → Carried) (s : State) : Carried :=
  match boxOf c with
  | none => refuse .notFound s
  | some b => carry b s

/-- A command is carried out; its response waits for its completion (R190). -/
def carryNow (carry : State → Carried) (s : State) : State :=
  let r := carry s
  { r.state with port := { r.state.port with carrying := some r.response } }

/-- A taken command clears the previous-frame indication, whatever its status (R194), and its frame now
gives wait bytes (R190). -/
def noteTaken (s : State) : State :=
  { s with port := { s.port with discarded := false, frame := .waiting } }

/-- No command is being carried out and none waits (R190). -/
def portFree (p : Port) : Bool :=
  p.carrying.isNone && p.waiting.isEmpty

/-- The figures a command forms when it is taken: those of Chapter 7, for a Read Container Status (R133, R143).
Every other command, and every other field of that response, reads the state when it starts (R190; log entry 32). -/
def figuresAtTaking (i : Instr) (s : State) : Option FillFigures :=
  match i with
  | .readContainerStatus _ c => (boxOf c).map fun b => fillFigures (s.bay b)
  | _ => none

/-- A command is taken (R189, R190): carried out at once, or set behind those taken before it. `i` is the
command itself, as it waits. -/
def takeCommand (i : Instr) (carry : State → Carried) (s : State) : State :=
  let s := noteTaken s
  if portFree s.port then carryNow carry s
  else { s with port := { s.port with waiting := s.port.waiting ++ [⟨i, figuresAtTaking i s⟩] } }

/-! ## Frame events -/

/-- The fall of the select line (R189, R193). -/
def beginFrame (s : State) : State :=
  { s with port := { s.port with frame := .begun, summary := some (summaryByte s) } }

/-- The rise of the select line (R189): before the length byte, a Summary read; after it and before the
command is taken, a discarded frame; afterwards, the command stands and the rest of its response is lost. -/
def endFrame (lengthComplete : Bool) (p : Port) : Port :=
  match p.frame with
  | .none => p
  | .begun => { p with frame := .none, discarded := p.discarded || lengthComplete }
  | .waiting => { p with frame := .none }
  | .responding _ => { p with frame := .none }

/-- The command being carried out completes: its response replaces the wait bytes of its own frame, which
is the frame on the link only where no later command has been taken (R190). -/
def completeCommand (p : Port) : Port :=
  match p.carrying with
  | none => p
  | some r =>
    { p with
      carrying := none
      frame := if p.waiting.isEmpty ∧ p.frame = .waiting then .responding r else p.frame }

/-- SELECT_FALL (R193). -/
def execSelectFall (s : State) : Host.Outcome State Fault Refusal :=
  .next (beginFrame s)

/-- FRAME_END (R189). -/
def execFrameEnd (lengthComplete : Bool) (s : State) : Host.Outcome State Fault Refusal :=
  .next { s with port := endFrame lengthComplete s.port }

/-- COMMAND_COMPLETION (R190). With no command in hand nothing happens. -/
def execCommandCompletion (s : State) : Host.Outcome State Fault Refusal :=
  .next { s with port := completeCommand s.port }

/-- A code that names no command: BAD_COMMAND (R191 check 1, R200). -/
def carryUnknownCommand (_len _code : Byte) (s : State) : Carried :=
  refuse .badCommand s

/-- UNKNOWN_COMMAND (R200). -/
def execUnknownCommand (len code : Byte) (s : State) : Host.Outcome State Fault Refusal :=
  .next (takeCommand (.unknownCommand len code) (carryUnknownCommand len code) s)

/-- No-Op: OK, nothing changes (R201). -/
def carryNoOp (len : Byte) (s : State) : Carried :=
  withLength len 0 (answer .ok .nothing) s

/-- NO_OP (R201). -/
def execNoOp (len : Byte) (s : State) : Host.Outcome State Fault Refusal :=
  .next (takeCommand (.noOp len) (carryNoOp len) s)

end Sys2Proof.Machine
end

