-- ==== Sys2Proof/Machine/Events.lean ====
section
/-! DEFINITION. The events of the inlet line and the expiries of the containers' timers (R38, R39, R40, R42,
R43, R52, R56, R80, R182). An expiry of a timer that does not run changes nothing (log entry 6). -/

namespace Sys2Proof.Machine

open Sys2Proof

/-! ## The inlet line -/

/-- The stuck-line measure after an edge, `heldMicros` being the time of the run that ends in which the DN32
was not transmitting, from the last service reset on where one fell within the run: an active run adds its time, and
the line seen idle while the DN32 is not transmitting restarts the measure (R42, R46; log entry 17). -/
def stuckAfter (b : Bus) (level : LineLevel) (heldMicros : Nat) (transmitting : Bool) : Nat :=
  match level with
  | .active => if 0 < heldMicros then 0 else b.stuck
  | .idle => if transmitting then b.stuck + heldMicros else 0

/-- The qualifier after an edge: in Ready the first active edge starts the window (R38). -/
def qualifierAtEdge (b : Bus) (level : LineLevel) : Qualifier :=
  if b.state = .quiet ∧ b.qualifier = .ready ∧ level = .active then .seeking 0 else b.qualifier

/-- A change of the line's level: a new run begins (R38, R42, R43). -/
def edge (level : LineLevel) (heldMicros : Nat) (transmitting : Bool) (b : Bus) : Bus :=
  if level = b.level then b
  else
    { b with
      level := level, heldTf := false
      stuck := stuckAfter b level heldMicros transmitting
      qualifier := qualifierAtEdge b level }

/-- LINE_EDGE (R38, R42). -/
def execLineEdge (level : LineLevel) (heldMicros : Quad) (transmitting : Bool) (s : State) :
    Host.Outcome State Fault Refusal :=
  .next { s with bus := edge level heldMicros.toNat transmitting s.bus }

/-- The level sought after `n` completed phases: active, idle, active (R38). -/
def soughtLevel (n : Nat) : LineLevel :=
  if n = 1 then .idle else .active

/-- A qualified wake pattern (R39). -/
def wakes (s : State) : State :=
  let s := setBusFlag .wakeSeen s
  let s := if s.bus.firstWake then s
    else raise .wake { s with bus := { s.bus with firstWake := true } }
  resumePolling .woken { s with bus := { s.bus with tInact := some s.settings.tInact } }

/-- The qualifier when the line has held its level for Tf, on a Quiet bus (R38). -/
def qualifierAtTf (s : State) : State :=
  match s.bus.qualifier with
  | .off => s
  | .ready => s
  | .recovering =>
    if s.bus.level = .idle then { s with bus := { s.bus with qualifier := .ready } } else s
  | .seeking n =>
    if s.bus.level = soughtLevel n then
      (if n < 2 then { s with bus := { s.bus with qualifier := .seeking (n + 1) } } else wakes s)
    else s

/-- The line has held its level for Tf (R38). -/
def tfElapses (s : State) : State :=
  let s := { s with bus := { s.bus with heldTf := true } }
  if s.bus.state = .quiet then qualifierAtTf s else s

/-- WAKE_TF_ELAPSED (R38, R39). -/
def execWakeTfElapsed (s : State) : Host.Outcome State Fault Refusal :=
  .next (tfElapses s)

/-- The window expires in Seeking (R38). -/
def windowExpires (b : Bus) : Bus :=
  match b.qualifier with
  | .seeking _ => if b.state = .quiet then { b with qualifier := recoveringFrom b } else b
  | .off => b
  | .recovering => b
  | .ready => b

/-- WAKE_WINDOW_EXPIRY (R38). -/
def execWakeWindowExpiry (s : State) : Host.Outcome State Fault Refusal :=
  .next { s with bus := windowExpires s.bus }

/-- The stuck-line measure passes 20 ms: it can only while the line is active, and it moves the bus in every
state other than Blocked (R42; log entry 17). -/
def blocksAtStuckLine (b : Bus) : Bool :=
  b.state != .blocked && b.level == .active

/-- STUCK_LINE_DETECTED (R42). -/
def execStuckLineDetected (s : State) : Host.Outcome State Fault Refusal :=
  .next (if blocksAtStuckLine s.bus then enterBlocked s else s)

/-- The bus leaves Blocked for its remembered target, the line being idle; an active line keeps it Blocked
(R43; log entry 18). -/
def recovers (s : State) : State :=
  match s.bus.state, s.bus.level, s.bus.target with
  | .blocked, .idle, some .active => resumePolling .active s
  | .blocked, .idle, some .quiet => enterQuiet s
  | _, _, _ => s

/-- BLOCKED_RECOVERY (R43). -/
def execBlockedRecovery (s : State) : Host.Outcome State Fault Refusal :=
  .next (recovers s)

/-- T_INACT_EXPIRY (R40): a Woken bus leaves as for a Bus Quiet. -/
def execTInactExpiry (s : State) : Host.Outcome State Fault Refusal :=
  .next (if s.bus.state = .woken ∧ s.bus.tInact.isSome = true then leaveForQuiet s else s)

/-! ## Timers of a container -/

/-- DENIAL_DISPLAY_EXPIRY (R80). -/
def execDenialDisplayExpiry (c : Box) (s : State) : Host.Outcome State Fault Refusal :=
  .next (s.setDisplay c none)

/-- T_OW_EXPIRY (R52): the cycle ends as NoDeposit. -/
def execTOwExpiry (c : Box) (s : State) : Host.Outcome State Fault Refusal :=
  .next (if (s.bay c).hatch.tOw.isSome then endCycle c .noDeposit .other s else s)

/-- T_DEP_EXPIRY (R52): the cycle ends as NoDeposit. -/
def execTDepExpiry (c : Box) (s : State) : Host.Outcome State Fault Refusal :=
  .next (if (s.bay c).hatch.tDep.isSome then endCycle c .noDeposit .other s else s)

/-- A running T_cl expires (R56): the demand stands with its timer spent, and HatchJam is requested. -/
def closeTimerExpires (c : Box) (s : State) : State :=
  match (s.bay c).hatch.demand with
  | some (.running _) => requestHatchJam c (s.modHatch c fun h => { h with demand := some .spent })
  | some .held => s
  | some .spent => s
  | none => s

/-- T_CL_EXPIRY (R56). -/
def execTClExpiry (c : Box) (s : State) : Host.Outcome State Fault Refusal :=
  .next (closeTimerExpires c s)

/-- A running T_q expires (R182): a forced end is requested. -/
def quiescenceExpires (c : Box) (s : State) : State :=
  if (s.bay c).hold.tQ.isSome then forcedEnd c (s.modHold c fun h => { h with tQ := none }) else s

/-- T_Q_EXPIRY (R182). -/
def execTQExpiry (c : Box) (s : State) : Host.Outcome State Fault Refusal :=
  .next (quiescenceExpires c s)

end Sys2Proof.Machine
end

