-- ==== Sys2Proof/Machine/BusCommands.lean ====
section
/-! DEFINITION. The bus commands and the attention commands (R34, R35, R41, R196, R197). -/

namespace Sys2Proof.Machine

open Sys2Proof

/-! ## Bus -/

/-- The effect of a taken Bus Quiet (R35, R43). -/
def busQuiets (s : State) : State :=
  match s.bus.state with
  | .active => leaveForQuiet s
  | .woken => leaveForQuiet s
  | .draining => s
  | .quiet => s
  | .blocked => { s with bus := { s.bus with target := some .quiet } }

/-- BUS_QUIET carried out (R35). -/
def carryBusQuiet (len : Byte) : State → Carried :=
  withLength len 0 fun s => answer .ok .nothing (busQuiets s)

/-- The effect of a taken Bus Active (R41, R43). -/
def busActivates (s : State) : State :=
  match s.bus.state with
  | .active => s
  | .woken => { s with bus := { s.bus with state := .active, tInact := none } }
  | .draining => { s with bus := { s.bus with state := .active } }
  | .quiet => resumePolling .active s
  | .blocked => { s with bus := { s.bus with target := some .active } }

/-- BUS_ACTIVE carried out (R41). -/
def carryBusActive (len : Byte) : State → Carried :=
  withLength len 0 fun s => answer .ok .nothing (busActivates s)

/-- READ_BUS_FLAGS carried out (R34). -/
def carryReadBusFlags (len : Byte) : State → Carried :=
  withLength len 0 fun s => answer .ok (.busFlags s.bus.state s.bus.target s.bus.counter s.bus.flags) s

/-- CLEAR_BUS_FLAGS carried out (R34, R203: bits 6 and 7 are ignored). -/
def carryClearBusFlags (len requests : Byte) : State → Carried :=
  withLength len 1 fun s =>
    answer .ok (.flags s.bus.flags)
      { s with bus := { s.bus with flags := s.bus.flags &&& ~~~ (requests.setWidth 6) } }

/-- BUS_QUIET (R35). -/
def execBusQuiet (len : Byte) (s : State) : Host.Outcome State Fault Refusal :=
  .next (takeCommand (.busQuiet len) (carryBusQuiet len) s)

/-- BUS_ACTIVE (R41). -/
def execBusActive (len : Byte) (s : State) : Host.Outcome State Fault Refusal :=
  .next (takeCommand (.busActive len) (carryBusActive len) s)

/-- READ_BUS_FLAGS (R34). -/
def execReadBusFlags (len : Byte) (s : State) : Host.Outcome State Fault Refusal :=
  .next (takeCommand (.readBusFlags len) (carryReadBusFlags len) s)

/-- CLEAR_BUS_FLAGS (R34). -/
def execClearBusFlags (len requests : Byte) (s : State) : Host.Outcome State Fault Refusal :=
  .next (takeCommand (.clearBusFlags len requests) (carryClearBusFlags len requests) s)

/-! ## Attention -/

/-- READ_ATTENTION carried out: the items, the mask and the present level of the line (R196, R198). -/
def carryReadAttention (len : Byte) : State → Carried :=
  withLength len 0 fun s => answer .ok (.attention s.port.items s.port.mask (lineLevel s.port.line)) s

/-- CLEAR_ATTENTION carried out (R196). -/
def carryClearAttention (len : Byte) (requests : Half) : State → Carried :=
  withLength len 2 fun s => answer .ok (.items s.port.items) (clearItems requests s)

/-- MASK_ATTENTION carried out (R197). -/
def carryMaskAttention (len : Byte) (enables : Half) : State → Carried :=
  withLength len 2 fun s => answer .ok (.mask s.port.mask) (replaceMask enables s)

/-- READ_ATTENTION (R196). -/
def execReadAttention (len : Byte) (s : State) : Host.Outcome State Fault Refusal :=
  .next (takeCommand (.readAttention len) (carryReadAttention len) s)

/-- CLEAR_ATTENTION (R196). -/
def execClearAttention (len : Byte) (requests : Half) (s : State) : Host.Outcome State Fault Refusal :=
  .next (takeCommand (.clearAttention len requests) (carryClearAttention len requests) s)

/-- MASK_ATTENTION (R197). -/
def execMaskAttention (len : Byte) (enables : Half) (s : State) : Host.Outcome State Fault Refusal :=
  .next (takeCommand (.maskAttention len enables) (carryMaskAttention len enables) s)

/-- DEASSERT_TIMER_EXPIRY (R198). With the timer stopped nothing happens. -/
def execDeassertTimerExpiry (s : State) : Host.Outcome State Fault Refusal :=
  .next { s with port := deassertExpired s.port }

end Sys2Proof.Machine
end

