-- ==== Sys2Proof/Machine/Cards.lean ====
section
/-! DEFINITION. The card commands, the denial counters, and the deposit log commands (Chapters 4 and 5). -/

namespace Sys2Proof.Machine

open Sys2Proof

/-! ## The record storage -/

/-- A place of the record storage: the records of the list stand in the first places, in their order; a place that
has held none since the power-on reset is zeros, and one that a record has left is free (R66, R84; log entry 35). -/
def storedAt (s : State) (place : Nat) : CardPlace :=
  match s.cards[place]? with
  | some k => .holds k
  | none =>
    if place < s.cardStorage.used then .left (Config.leftInPlace s.cardStorage.removals place) else .zeros

/-- A record joins the list at the place of its number (R66), the storage holding one record more. -/
def addCard (k : CardRecord) (s : State) : State :=
  { s with
    cards := insertCardRecord k s.cards
    cardStorage := { s.cardStorage with used := max s.cardStorage.used (s.cards.length + 1) } }

/-- The records of a number leave the list (R66). -/
def dropCard (number : Nat) (s : State) : State :=
  { s with
    cards := s.cards.filter fun k => decide (k.number ≠ number)
    cardStorage := { s.cardStorage with removals := s.cardStorage.removals + 1 } }

/-! ## Card commands -/

/-- The checks Insert Card and Update Card share: the number and the fields (R67). -/
def cardChecked (card : Quad) (p : CardParams) : Option CardRecord :=
  if isCardNumber card then cardFieldsOf card p else none

/-- INSERT_CARD carried out (R67). -/
def carryInsertCard (len : Byte) (card : Quad) (p : CardParams) : State → Carried :=
  withLength len 10 fun s =>
    match cardChecked card p with
    | none => refuse .badCommand s
    | some k =>
      if (s.cardOf k.number).isSome then refuse .duplicate s
      else if 4096 ≤ s.cards.length then refuse .full s
      else answer .ok .nothing (addCard { k with remaining := planValue s k } s)

/-- A record updated: the carried fields, and the allowance cut to the plan (R67, R88). -/
def updatedCard (s : State) (k old : CardRecord) : CardRecord :=
  { k with remaining := min old.remaining (planValue s k) }

/-- UPDATE_CARD carried out (R67). -/
def carryUpdateCard (len : Byte) (card : Quad) (p : CardParams) : State → Carried :=
  withLength len 10 fun s =>
    match cardChecked card p with
    | none => refuse .badCommand s
    | some k =>
      match s.cardOf k.number with
      | none => refuse .notFound s
      | some old => answer .ok (.cardRecord old) (s.modCard k.number (updatedCard s k))

/-- REMOVE_CARD carried out (R67). -/
def carryRemoveCard (len : Byte) (card : Quad) : State → Carried :=
  withLength len 4 fun s =>
    if isCardNumber card then
      match s.cardOf card.toNat with
      | none => refuse .notFound s
      | some old =>
        answer .ok (.cardRecord old) (dropCard card.toNat s)
    else refuse .badCommand s

/-- The record Read Card finds; a mode other than Exact and Next names no search (R68). -/
def cardSearch (s : State) (card : Quad) (mode : Byte) : Option (Option CardRecord) :=
  match mode.toNat with
  | 0 => some (s.cardOf card.toNat)
  | 1 => some (s.cards.find? fun k => decide (card.toNat < k.number))
  | _ => none

/-- READ_CARD carried out (R68); the count goes with every answer to a mode that exists (log entry 20). -/
def carryReadCard (len : Byte) (card : Quad) (mode : Byte) : State → Carried :=
  withLength len 5 fun s =>
    match cardSearch s card mode with
    | none => refuse .badCommand s
    | some none => answer .notFound (.cardRead none s.cards.length) s
    | some (some k) => answer .ok (.cardRead (some (k, s.openCards.contains k.number)) s.cards.length) s

/-- INSERT_CARD (R67). -/
def execInsertCard (len : Byte) (card : Quad) (p : CardParams) (s : State) :
    Host.Outcome State Fault Refusal :=
  .next (takeCommand (.insertCard len card p) (carryInsertCard len card p) s)

/-- UPDATE_CARD (R67). -/
def execUpdateCard (len : Byte) (card : Quad) (p : CardParams) (s : State) :
    Host.Outcome State Fault Refusal :=
  .next (takeCommand (.updateCard len card p) (carryUpdateCard len card p) s)

/-- REMOVE_CARD (R67). -/
def execRemoveCard (len : Byte) (card : Quad) (s : State) : Host.Outcome State Fault Refusal :=
  .next (takeCommand (.removeCard len card) (carryRemoveCard len card) s)

/-- READ_CARD (R68). -/
def execReadCard (len : Byte) (card : Quad) (mode : Byte) (s : State) :
    Host.Outcome State Fault Refusal :=
  .next (takeCommand (.readCard len card mode) (carryReadCard len card mode) s)

/-! ## Denial counters -/

/-- READ_DENIAL_COUNTERS carried out (R83, R203). -/
def carryReadDenialCounters (len requests : Byte) : State → Carried :=
  withLength len 1 fun s =>
    answer .ok (.denials s.denials s.sighting)
      { s with
        denials := if requests.getLsbD 0 then Vector.replicate 11 0 else s.denials
        sighting := if requests.getLsbD 1 then none else s.sighting }

/-- READ_DENIAL_COUNTERS (R83). -/
def execReadDenialCounters (len requests : Byte) (s : State) : Host.Outcome State Fault Refusal :=
  .next (takeCommand (.readDenialCounters len requests) (carryReadDenialCounters len requests) s)

/-! ## The deposit log -/

/-- PEEK_LOG carried out (R98). -/
def carryPeekLog (len n : Byte) : State → Carried :=
  withLength len 1 fun s =>
    answer (okIf (decide (16 < n.toNat)))
      (.logPeek (s.log.take (min n.toNat 16)) s.log.length s.reserved (s.log.head?.map LogRecord.sequence)) s

/-- RELEASE_LOG carried out (R99). -/
def carryReleaseLog (len n : Byte) : State → Carried :=
  withLength len 1 fun s =>
    let count := min n.toNat s.log.length
    answer (okIf (decide (s.log.length < n.toNat)))
      (.logReleased count (s.log.length - count)) { s with log := s.log.drop count }

/-- PEEK_LOG (R98). -/
def execPeekLog (len n : Byte) (s : State) : Host.Outcome State Fault Refusal :=
  .next (takeCommand (.peekLog len n) (carryPeekLog len n) s)

/-- RELEASE_LOG (R99). -/
def execReleaseLog (len n : Byte) (s : State) : Host.Outcome State Fault Refusal :=
  .next (takeCommand (.releaseLog len n) (carryReleaseLog len n) s)

end Sys2Proof.Machine
end

