-- ==== Sys2Proof/Machine/Clocks.lean ====
section
/-! DEFINITION. The Wall Clock and Schedule: the minute tick, Set Clock, Read Clock, Trigger Rollover, and the
district settings (section 1.5, R86, R87, R201). -/

namespace Sys2Proof.Machine

open Sys2Proof

/-! ## The minute tick -/

/-- The clock one minute on (R15). -/
def nextMinute (k : Clock) : Clock :=
  if k.minute < 10079 then { k with subMinute := 0, minute := k.minute + 1 }
  else { k with subMinute := 0, minute := 0, week := (k.week + 1) % 65536 }

/-- Whether the minute just reached is a period tick (R17). -/
def isPeriodTick (s : State) : Bool :=
  s.clock.set && s.clock.minute % s.settings.period == 0

/-- Whether the minute just reached is a rollover tick (R18). -/
def isRolloverTick (s : State) : Bool :=
  s.clock.set && s.clock.minute == s.settings.rollover

/-- A minute tick (R15, R17, R18). -/
def minuteTicks (s : State) : State :=
  let s := { s with clock := nextMinute s.clock }
  let t := if isPeriodTick s then periodTick s else s
  if isRolloverTick s then rollover t else t

/-- MINUTE_TICK (R15). -/
def execMinuteTick (s : State) : Host.Outcome State Fault Refusal :=
  .next (minuteTicks s)

/-! ## Clock commands -/

/-- SET_CLOCK carried out (R16). -/
def carrySetClock (len : Byte) (minute week : Half) : State → Carried :=
  withLength len 4 fun s =>
    if 10079 < minute.toNat then refuse .badCommand s
    else answer .ok .nothing
      { s with clock := { subMinute := 0, minute := minute.toNat, week := week.toNat, set := true } }

/-- READ_CLOCK carried out (R16). -/
def carryReadClock (len : Byte) : State → Carried :=
  withLength len 0 fun s => answer .ok (.clock s.clock.minute s.clock.week s.clock.set) s

/-- TRIGGER_ROLLOVER carried out (R18, R92). -/
def carryTriggerRollover (len : Byte) : State → Carried :=
  withLength len 0 fun s => answer .ok .nothing (rollover s)

/-- SET_CLOCK (R16). -/
def execSetClock (len : Byte) (minute week : Half) (s : State) : Host.Outcome State Fault Refusal :=
  .next (takeCommand (.setClock len minute week) (carrySetClock len minute week) s)

/-- READ_CLOCK (R16). -/
def execReadClock (len : Byte) (s : State) : Host.Outcome State Fault Refusal :=
  .next (takeCommand (.readClock len) (carryReadClock len) s)

/-- TRIGGER_ROLLOVER (R18). -/
def execTriggerRollover (len : Byte) (s : State) : Host.Outcome State Fault Refusal :=
  .next (takeCommand (.triggerRollover len) (carryTriggerRollover len) s)

/-! ## District settings -/

/-- READ_DISTRICT_SETTINGS carried out (R201). -/
def carryReadDistrictSettings (len : Byte) : State → Carried :=
  withLength len 0 fun s => answer .ok (.settings s.settings) s

/-- Settings stored, the cards of lowered plans cut (R87, R201). -/
def storeSettings (new : Settings) (s : State) : State :=
  { s with settings := new, cards := cutToPlans s.settings.plans new.plans s.cards }

/-- WRITE_DISTRICT_SETTINGS carried out (R201, R18, R19, R86). -/
def carryWriteDistrictSettings (len : Byte) (p : DistrictParams) : State → Carried :=
  withLength len 48 fun s =>
    let carried := settingsCarried p
    let new := clampSettings carried
    if settingsAccepted carried then
      answer (okIf (decide (new ≠ carried))) (.settings s.settings) (storeSettings new s)
    else answer .badCommand (.settings s.settings) s

/-- READ_DISTRICT_SETTINGS (R201). -/
def execReadDistrictSettings (len : Byte) (s : State) : Host.Outcome State Fault Refusal :=
  .next (takeCommand (.readDistrictSettings len) (carryReadDistrictSettings len) s)

/-- WRITE_DISTRICT_SETTINGS (R201). -/
def execWriteDistrictSettings (len : Byte) (p : DistrictParams) (s : State) :
    Host.Outcome State Fault Refusal :=
  .next (takeCommand (.writeDistrictSettings len p) (carryWriteDistrictSettings len p) s)

end Sys2Proof.Machine
end

