-- ==== Sys2Proof/Machine/Containers.lean ====
section
/-! DEFINITION. The commands of the Container Table: configuration, Start, Retire, container status
(Chapter 1, R201). -/

namespace Sys2Proof.Machine

open Sys2Proof

/-! ## Configuration -/

/-- READ_CONTAINER_CONFIG carried out (R7). -/
def carryReadContainerConfig (len c : Byte) : State → Carried :=
  withLength len 1 (withBox c fun b s =>
    answer .ok (.configStarted (s.bay b).record.config (s.bay b).record.started) s)

/-- The present field changes from no to yes: counters, stray tally, baseline and last uplink (R4, R32). -/
def becomePresentBay (b : Bay) : Bay :=
  { b with
    column := { b.column with consecutive := 0, total := 0, last := none }
    hatch := { b.hatch with stray := 0, baseline := none } }

/-- The present field changes from yes to no: attribute, close demand, baseline, lost mark, pending answer
and denial display (R4, R28, R30, R80). -/
def becomeAbsentBay (b : Bay) : Bay :=
  { b with
    record := { b.record with fault := .none }
    column := { b.column with lost := false, answer := none }
    hatch := { b.hatch with demand := none, baseline := none }
    display := none }

/-- The slots of a column that is no longer present run as padding slots (R24; log entry 12). -/
def padSlots (c : Box) (slots : List (Option Box)) : List (Option Box) :=
  slots.map fun x => if x = some c then none else x

/-- The effects of a changed present field (R4). -/
def applyPresence (c : Box) (old new : ContainerConfig) (s : State) : State :=
  match old.present, new.present with
  | false, true => s.modBay c becomePresentBay
  | true, false =>
    let s := s.modBay c becomeAbsentBay
    { s with bus := { s.bus with slots := padSlots c s.bus.slots } }
  | true, true => s
  | false, false => s

/-- The effects of a changed C or H on the estimate record (R4). -/
def regeometry (new : ContainerConfig) (e : Estimate) : Estimate :=
  { restartMeasuring e with fill := min (ceiling new) e.fill }

/-- A configuration stored, with the effects of what changed (R4, R5). -/
def storeConfig (c : Box) (new : ContainerConfig) (s : State) : State :=
  let old := (s.bay c).record.config
  let s := s.modRecord c fun r =>
    { r with config := new, tally := if samePhysical old new then r.tally else 0 }
  let s := applyPresence c old new s
  let s := if sameGeometry old new then s else s.modEst c (regeometry new)
  if sameGeometry old new && sameThresholds old new then s else evaluate c s

/-- WRITE_CONTAINER_CONFIG after its container check (R2 checks 2 to 4). -/
def writeConfig (p : ContainerParams) (c : Box) (s : State) : Carried :=
  let old := (s.bay c).record.config
  match fractionOf p.fraction with
  | none => answer .badCommand (.config old) s
  | some f =>
    let carried := configCarried f p
    let new := clampConfig carried
    if 7 < p.cluster.toNat then answer .badCommand (.config old) s
    else if opState (s.bay c) ≠ .dormant ∧ samePhysical old new = false then answer .state (.config old) s
    else answer (okIf (decide (new ≠ carried))) (.config old) (storeConfig c new s)

/-- WRITE_CONTAINER_CONFIG carried out (R2, R3). -/
def carryWriteContainerConfig (len c : Byte) (p : ContainerParams) : State → Carried :=
  withLength len 24 (withBox c (writeConfig p))

/-! ## Start and Retire -/

/-- Start of a container (R8). -/
def startBox (c : Box) (s : State) : Carried :=
  if (s.bay c).record.started = false ∧ (s.bay c).record.config.present = true then
    answer .ok .nothing (evaluate c (s.modRecord c fun r => { r with started := true }))
  else refuse .state s

/-- START carried out (R8). -/
def carryStart (len c : Byte) : State → Carried :=
  withLength len 1 (withBox c startBox)

/-- What a taken Retire does (R9, R161). -/
def retireTaken (c : Box) (s : State) : State :=
  (finishOrder c .aborted none none (s.modRecord c fun r => { r with started := false })).modEst c fun e =>
    { e with window := [] }

/-- Retire of a container (R9). -/
def retireBox (c : Box) (s : State) : Carried :=
  let b := s.bay c
  if b.record.started = false ∨ b.hold.requested = true ∨ b.cycleActive = true then refuse .state s
  else answer .ok .nothing (retireTaken c s)

/-- RETIRE carried out (R9). -/
def carryRetire (len c : Byte) : State → Carried :=
  withLength len 1 (withBox c retireBox)

/-! ## Container status -/

/-- What Read Container Status returns (R201). -/
def containerStatus (s : State) (c : Box) : ContainerStatus :=
  let b := s.bay c
  let k := b.record.config
  { opState := opState b, started := b.record.started, fault := b.record.fault, tally := b.record.tally
    lost := b.column.lost, consecutive := b.column.consecutive, total := b.column.total
    lastHatch := b.column.last.map LastUplink.hatch, lastLevel := b.column.last.bind LastUplink.level
    phase := b.hatch.cycle.map Cycle.phase, card := b.hatch.cycle.map Cycle.card
    demand := b.hatch.demand, stray := b.hatch.stray, baseline := b.hatch.baseline
    est := b.est, windowCount := b.est.window.length
    effFill := effFill b.est, effPercent := effPercent k b.est
    tOrderL := litres k.tOrder k.capacity, tCloseL := litres k.tClose k.capacity
    tReopenL := litres k.tReopen k.capacity
    hold := b.hold, order := (s.orderOf c).map Order.number }

/-- READ_CONTAINER_STATUS carried out (R201). -/
def carryReadContainerStatus (len c : Byte) : State → Carried :=
  withLength len 1 (withBox c fun b s => answer .ok (.containerStatus (containerStatus s b)) s)

/-! ## The commands -/

/-- READ_CONTAINER_CONFIG (R7). -/
def execReadContainerConfig (len c : Byte) (s : State) : Host.Outcome State Fault Refusal :=
  .next (takeCommand (.readContainerConfig len c) (carryReadContainerConfig len c) s)

/-- WRITE_CONTAINER_CONFIG (R2). -/
def execWriteContainerConfig (len c : Byte) (p : ContainerParams) (s : State) :
    Host.Outcome State Fault Refusal :=
  .next (takeCommand (.writeContainerConfig len c p) (carryWriteContainerConfig len c p) s)

/-- START (R8). -/
def execStart (len c : Byte) (s : State) : Host.Outcome State Fault Refusal :=
  .next (takeCommand (.start len c) (carryStart len c) s)

/-- RETIRE (R9). -/
def execRetire (len c : Byte) (s : State) : Host.Outcome State Fault Refusal :=
  .next (takeCommand (.retire len c) (carryRetire len c) s)

/-- READ_CONTAINER_STATUS (R201). -/
def execReadContainerStatus (len c : Byte) (s : State) : Host.Outcome State Fault Refusal :=
  .next (takeCommand (.readContainerStatus len c) (carryReadContainerStatus len c) s)

end Sys2Proof.Machine
end

