-- ==== Sys2Proof/Machine/HoldCommands.lean ====
section
/-! DEFINITION. The hold commands of the operations port and Clear Fault (R180, R181, R186). -/

namespace Sys2Proof.Machine

open Sys2Proof

/-- A service hold set on a container (R180). -/
def setService (cycleActive : Bool) (len : Nat) (h : Hold) : Hold :=
  startQuiescence cycleActive len { h with service := true }

/-- Service Hold On of a container (R180); a repeat answers with the hold state too (log entry 21). -/
def serviceHoldOnBox (c : Box) (s : State) : Carried :=
  let b := s.bay c
  if opState b = .dormant then refuse .state s
  else if b.hold.service then answer .ok (.holdState (claimState b)) s
  else
    let t := s.modHold c (setService b.cycleActive s.settings.tQ)
    answer .ok (.holdState (claimState (t.bay c))) t

/-- SERVICE_HOLD_ON carried out (R180). -/
def carryServiceHoldOn (len c : Byte) : State → Carried :=
  withLength len 1 (withBox c serviceHoldOnBox)

/-- Service Hold Off of a container (R180). -/
def serviceHoldOffBox (c : Box) (s : State) : Carried :=
  if (s.bay c).hold.service then
    answer .ok .nothing (s.modHold c fun h => settleSources { h with service := false })
  else refuse .notHeld s

/-- SERVICE_HOLD_OFF carried out (R180). -/
def carryServiceHoldOff (len c : Byte) : State → Carried :=
  withLength len 1 (withBox c serviceHoldOffBox)

/-- What a lost vehicle's attempt makes of its Claimed order (R156, R181). -/
def orphanFate (s : State) (c : Box) (vehicle : Nat) : OrphanFate :=
  match s.orderOf c with
  | none => .untouched
  | some o =>
    if (claimedNumber s c vehicle).isNone then .untouched
    else if isExhausted { o with attempts := o.attempts + 1 } then .failed
    else if o.abortRequested then .aborted
    else .pending

/-- A taken Release Orphan (R181): the steps of R179, a still-Claimed order counting a lost vehicle (R156). -/
def releaseOrphanTaken (vehicle : Nat) (c : Box) (s : State) : State :=
  let t := s.modHold c clearEmptying
  let t := if (claimedNumber s c vehicle).isSome then failAttempt c .linkLost t else t
  t.modHold c settleSources

/-- Release Orphan of a container (R181). -/
def releaseOrphanBox (c : Box) (s : State) : Carried :=
  match (s.bay c).hold.emptying with
  | none => refuse .notHeld s
  | some v =>
    if (s.bay c).hold.orphan then answer .ok (.orphan v (orphanFate s c v)) (releaseOrphanTaken v c s)
    else refuse .notHeld s

/-- RELEASE_ORPHAN carried out (R181). -/
def carryReleaseOrphan (len c : Byte) : State → Carried :=
  withLength len 1 (withBox c releaseOrphanBox)

/-- Clear Fault of a container (R186). -/
def clearFaultBox (c : Box) (s : State) : Carried :=
  let b := s.bay c
  match b.record.fault with
  | .none => answer .ok (.fault .none) s
  | .columnLost => refuse .state s
  | .hatchJam =>
    if b.column.lost = false ∧ b.column.last.map LastUplink.hatch = some .closed then
      answer .ok (.fault .hatchJam) (s.modRecord c fun r => { r with fault := .none })
    else refuse .state s

/-- CLEAR_FAULT carried out (R186). -/
def carryClearFault (len c : Byte) : State → Carried :=
  withLength len 1 (withBox c clearFaultBox)

/-- SERVICE_HOLD_ON (R180). -/
def execServiceHoldOn (len c : Byte) (s : State) : Host.Outcome State Fault Refusal :=
  .next (takeCommand (.serviceHoldOn len c) (carryServiceHoldOn len c) s)

/-- SERVICE_HOLD_OFF (R180). -/
def execServiceHoldOff (len c : Byte) (s : State) : Host.Outcome State Fault Refusal :=
  .next (takeCommand (.serviceHoldOff len c) (carryServiceHoldOff len c) s)

/-- RELEASE_ORPHAN (R181). -/
def execReleaseOrphan (len c : Byte) (s : State) : Host.Outcome State Fault Refusal :=
  .next (takeCommand (.releaseOrphan len c) (carryReleaseOrphan len c) s)

/-- CLEAR_FAULT (R186). -/
def execClearFault (len c : Byte) (s : State) : Host.Outcome State Fault Refusal :=
  .next (takeCommand (.clearFault len c) (carryClearFault len c) s)

end Sys2Proof.Machine
end

