-- ==== Sys2Proof/Machine/OrderCommands.lean ====
section
/-! DEFINITION. The commands of the Fill Estimator and the Order Manager (R125, R126, R147, R157, R164, R165). -/

namespace Sys2Proof.Machine

open Sys2Proof

/-! ## Estimate -/

/-- Reset Estimate of a container (R125). -/
def resetEstimateBox (value : Half) (c : Box) (s : State) : Carried :=
  let b := s.bay c
  let top := ceiling b.record.config
  answer (okIf (decide (top < value.toNat))) (.estimate b.est.fill b.est.bulk b.est.mode)
    (evaluate c (s.modEst c (setOutright (min value.toNat top))))

/-- RESET_ESTIMATE carried out (R125). -/
def carryResetEstimate (len c : Byte) (value : Half) : State → Carried :=
  withLength len 3 (withBox c (resetEstimateBox value))

/-- A signed amount brought into −1000..+1000 (R126, R192). -/
def clampAmount (a : Int) : Int :=
  max (-1000) (min 1000 a)

/-- Adjust Estimate of a container (R126). -/
def adjustEstimateBox (amount : Half) (c : Box) (s : State) : Carried :=
  answer (okIf (decide (clampAmount amount.toInt ≠ amount.toInt))) (.adjustment (s.bay c).est.adjust)
    (s.modEst c fun e => { e with adjust := clampAmount amount.toInt })

/-- ADJUST_ESTIMATE carried out (R126). -/
def carryAdjustEstimate (len c : Byte) (amount : Half) : State → Carried :=
  withLength len 3 (withBox c (adjustEstimateBox amount))

/-- RESET_ESTIMATE (R125). -/
def execResetEstimate (len c : Byte) (value : Half) (s : State) : Host.Outcome State Fault Refusal :=
  .next (takeCommand (.resetEstimate len c value) (carryResetEstimate len c value) s)

/-- ADJUST_ESTIMATE (R126). -/
def execAdjustEstimate (len c : Byte) (amount : Half) (s : State) : Host.Outcome State Fault Refusal :=
  .next (takeCommand (.adjustEstimate len c amount) (carryAdjustEstimate len c amount) s)

/-! ## Orders -/

/-- Post Order of a container (R147). -/
def postOrderBox (priority : Byte) (label : Half) (oneShot : Byte) (c : Box) (s : State) : Carried :=
  let p := min 3 priority.toNat
  let st := okIf (decide (3 < priority.toNat))
  if opState (s.bay c) = .dormant then refuse .state s
  else match s.orderOf c with
    | none =>
      answer st (.orderPosted (assignedNumber s) false)
        (createOrder (postedOrder c p label.toNat (isYes oneShot)) s)
    | some o =>
      if o.state = .claimed then refuse .state s
      else answer st (.orderPosted o.number true) (s.modOrder c (mergePost p label.toNat (isYes oneShot)))

/-- POST_ORDER carried out (R147). -/
def carryPostOrder (len c priority : Byte) (label : Half) (oneShot : Byte) : State → Carried :=
  withLength len 5 (withBox c (postOrderBox priority label oneShot))

/-- What a taken Abort Order does to an order (R157). -/
def abortTaken (o : Order) (s : State) : State :=
  let s := s.modOrder o.container fun p => { p with abortRequested := true }
  match o.state with
  | .pending => finishOrder o.container .aborted none none s
  | .offered => s
  | .claimed => s

/-- ABORT_ORDER carried out (R157). -/
def carryAbortOrder (len : Byte) (number : Half) : State → Carried :=
  withLength len 2 fun s =>
    match s.orders.find? fun o => o.number == number.toNat with
    | none => refuse .notFound s
    | some o => answer .ok (.orderState o.state) (abortTaken o s)

/-- An order with its creation position (R144, R165; log entry 25). -/
def withPosition (orders : List Order) (o : Order) : Order × Nat :=
  (o, orders.idxOf o + 1)

/-- READ_ORDERS carried out (R165). -/
def carryReadOrders (len first : Byte) : State → Carried :=
  withLength len 1 fun s =>
    answer .ok (.orderList s.orders.length s.orderCounter
      ((((ranked s.orders).drop first.toNat).take 8).map (withPosition s.orders))) s

/-- READ_HISTORY carried out (R164). -/
def carryReadHistory (len n : Byte) : State → Carried :=
  withLength len 1 fun s =>
    let count := min (min n.toNat 8) s.history.length
    answer (okIf (decide (8 < n.toNat)))
      (.historyRead (s.history.length - count) s.wrapped (s.history.take count))
      { s with history := s.history.drop count, wrapped := false }

/-- POST_ORDER (R147). -/
def execPostOrder (len c priority : Byte) (label : Half) (oneShot : Byte) (s : State) :
    Host.Outcome State Fault Refusal :=
  .next (takeCommand (.postOrder len c priority label oneShot) (carryPostOrder len c priority label oneShot) s)

/-- ABORT_ORDER (R157). -/
def execAbortOrder (len : Byte) (number : Half) (s : State) : Host.Outcome State Fault Refusal :=
  .next (takeCommand (.abortOrder len number) (carryAbortOrder len number) s)

/-- READ_ORDERS (R165). -/
def execReadOrders (len first : Byte) (s : State) : Host.Outcome State Fault Refusal :=
  .next (takeCommand (.readOrders len first) (carryReadOrders len first) s)

/-- READ_HISTORY (R164). -/
def execReadHistory (len n : Byte) (s : State) : Host.Outcome State Fault Refusal :=
  .next (takeCommand (.readHistory len n) (carryReadHistory len n) s)

end Sys2Proof.Machine
end

