-- ==== Sys2Proof/Machine/Resets.lean ====
section
/-! DEFINITION. The two resets: power-on reset (R202 and the power-on tables of every chapter) and Service
Reset, part by part (R199). -/

namespace Sys2Proof.Machine

open Sys2Proof

/-- POWER_ON_RESET (R202): every block at its power-on values; the queue of events is not the part's (log entry
10). A command in hand and the commands waiting at the port, which R202 does not name, are dropped (log entry
34). -/
def execPowerOnReset (s : State) : Host.Outcome State Fault Refusal :=
  .next { State.reset with pending := s.pending }

/-- The close demand of a container set afresh by a service reset (R64); T_cl is held while the column is
lost (R57), and runs otherwise, the bus being Active after the reset. -/
def freshDemand (len : Nat) (b : Bay) : Bay :=
  { b with hatch := { b.hatch with demand :=
      if b.record.config.present ∧ b.column.last.map LastUplink.hatch ≠ some .closed then
        (if b.column.lost then some .held else some (.running len))
      else none } }

/-- One cycle ended by a service reset (R64). -/
def endCut (s : State) (c : Box) : State :=
  endCycle c .cut .resetEnd s

/-- Part 1: every active cycle ends as Cut, in the free order of log entry 8; close demands are set afresh (R64). -/
def resetCycles (s : State) : State :=
  let s := (freeOrder s.draws (activeBoxes s)).foldl endCut { s with draws := s.draws + 1 }
  s.mapBays (freshDemand s.settings.tCl)

/-- One order finished by a service reset (R167). -/
def endReset (s : State) (c : Box) : State :=
  finishOrder c .reset none none s

/-- Part 2: every active order finishes as Reset, in rank order (R167). -/
def resetOrders (s : State) : State :=
  ((ranked s.orders).map Order.container).foldl endReset s

/-- Part 3: the dock ends without an Undock item; every hold record is cleared (R188). -/
def resetHolds (s : State) : State :=
  { s.mapBays (fun b => { b with hold := {} }) with dock := none }

/-- Part 4 at one column: counters 0, pending answer dropped; lost mark and last uplink kept (R46). -/
def resetColumn (k : Column) : Column :=
  { k with consecutive := 0, total := 0, answer := none }

/-- Part 4: the bus enters Active and a cycle starts (R46). -/
def resetBus (s : State) : State :=
  let s := s.mapBays fun b => { b with column := resetColumn b.column }
  startCycle { s with bus := { s.bus with
      state := .active, target := none, firstWake := false, qualifier := .off, tInact := none, stuck := 0 } }

/-- Part 5: every reading window is cleared (R128). -/
def resetWindows (s : State) : State :=
  s.mapBays fun b => { b with est := { b.est with window := [] } }

/-- Part 6: denial displays end (R85). -/
def resetDisplays (s : State) : State :=
  s.mapBays fun b => { b with display := none }

/-- The six parts of a service reset, in order (R199). -/
def serviceResets (s : State) : State :=
  resetDisplays (resetWindows (resetBus (resetHolds (resetOrders (resetCycles s)))))

/-- SERVICE_RESET carried out (R199); the response counts the cycles ended and the orders reset. -/
def carryServiceReset (len : Byte) : State → Carried :=
  withLength len 0 fun s =>
    answer .ok (.resetCounts (activeBoxes s).length s.orders.length) (serviceResets s)

/-- SERVICE_RESET (R199). -/
def execServiceReset (len : Byte) (s : State) : Host.Outcome State Fault Refusal :=
  .next (takeCommand (.serviceReset len) (carryServiceReset len) s)

end Sys2Proof.Machine
end

