-- ==== Sys2Proof/Machine/Queue.lean ====
section
/-! DEFINITION. The commands that wait at the operations port: each carried out once every command taken before
it has completed (R190). -/

namespace Sys2Proof.Machine

open Sys2Proof

/-- How a waiting command is carried out. Only commands of the operations port wait; the events, which
never stand in the port's queue, carry nothing out. -/
def carryOut (i : Instr) (s : State) : Carried :=
  match i with
  | .unknownCommand len code => carryUnknownCommand len code s
  | .noOp len => carryNoOp len s
  | .readDistrictSettings len => carryReadDistrictSettings len s
  | .writeDistrictSettings len p => carryWriteDistrictSettings len p s
  | .readContainerConfig len c => carryReadContainerConfig len c s
  | .writeContainerConfig len c p => carryWriteContainerConfig len c p s
  | .start len c => carryStart len c s
  | .retire len c => carryRetire len c s
  | .setClock len minute week => carrySetClock len minute week s
  | .readClock len => carryReadClock len s
  | .triggerRollover len => carryTriggerRollover len s
  | .insertCard len card p => carryInsertCard len card p s
  | .updateCard len card p => carryUpdateCard len card p s
  | .removeCard len card => carryRemoveCard len card s
  | .readCard len card mode => carryReadCard len card mode s
  | .peekLog len n => carryPeekLog len n s
  | .releaseLog len n => carryReleaseLog len n s
  | .readContainerStatus len c => carryReadContainerStatus len c s
  | .resetEstimate len c value => carryResetEstimate len c value s
  | .adjustEstimate len c amount => carryAdjustEstimate len c amount s
  | .postOrder len c priority label oneShot => carryPostOrder len c priority label oneShot s
  | .abortOrder len number => carryAbortOrder len number s
  | .readOrders len first => carryReadOrders len first s
  | .readHistory len n => carryReadHistory len n s
  | .serviceHoldOn len c => carryServiceHoldOn len c s
  | .serviceHoldOff len c => carryServiceHoldOff len c s
  | .releaseOrphan len c => carryReleaseOrphan len c s
  | .clearFault len c => carryClearFault len c s
  | .busQuiet len => carryBusQuiet len s
  | .busActive len => carryBusActive len s
  | .readBusFlags len => carryReadBusFlags len s
  | .clearBusFlags len requests => carryClearBusFlags len requests s
  | .readAttention len => carryReadAttention len s
  | .clearAttention len requests => carryClearAttention len requests s
  | .maskAttention len enables => carryMaskAttention len enables s
  | .readDenialCounters len requests => carryReadDenialCounters len requests s
  | .serviceReset len => carryServiceReset len s
  | .powerOnReset => answer .ok .nothing s
  | .selectFall => answer .ok .nothing s
  | .frameEnd _ => answer .ok .nothing s
  | .queuedCommandStart => answer .ok .nothing s
  | .commandCompletion => answer .ok .nothing s
  | .minuteTick => answer .ok .nothing s
  | .slotEnd _ => answer .ok .nothing s
  | .lineEdge _ _ _ => answer .ok .nothing s
  | .wakeTfElapsed => answer .ok .nothing s
  | .wakeWindowExpiry => answer .ok .nothing s
  | .stuckLineDetected => answer .ok .nothing s
  | .blockedRecovery => answer .ok .nothing s
  | .tInactExpiry => answer .ok .nothing s
  | .denialDisplayExpiry _ => answer .ok .nothing s
  | .tOwExpiry _ => answer .ok .nothing s
  | .tDepExpiry _ => answer .ok .nothing s
  | .tClExpiry _ => answer .ok .nothing s
  | .tQExpiry _ => answer .ok .nothing s
  | .tDockExpiry => answer .ok .nothing s
  | .vehicleFrameDiscarded => answer .ok .nothing s
  | .unknownMessage _ => answer .ok .nothing s
  | .dock _ _ _ => answer .ok .nothing s
  | .refresh _ _ => answer .ok .nothing s
  | .status _ _ => answer .ok .nothing s
  | .undock _ _ => answer .ok .nothing s
  | .claim _ _ _ => answer .ok .nothing s
  | .liftReport _ _ _ _ _ => answer .ok .nothing s
  | .release _ _ _ => answer .ok .nothing s
  | .deassertTimerExpiry => answer .ok .nothing s

/-- A response with the figures that were formed when its command was taken (R133, R143). -/
def Response.withFigures (r : Response) (figures : Option FillFigures) : Response :=
  match figures, r.data with
  | some f, .containerStatus v => { r with data := .containerStatus (v.withFigures f) }
  | _, _ => r

/-- A waiting command is carried out, with its effect and its response as of now (R190) but for the figures formed
at its taking (R133, R143; log entry 32). -/
def carryWaiting (w : Waiting) (s : State) : Carried :=
  let c := carryOut w.command s
  ⟨c.state, c.response.withFigures w.figures⟩

/-- The first waiting command starts, once no command is in hand (R190). -/
def startQueued (s : State) : State :=
  match s.port.carrying, s.port.waiting with
  | none, w :: rest => carryNow (carryWaiting w) { s with port := { s.port with waiting := rest } }
  | _, _ => s

/-- QUEUED_COMMAND_START (R190). With a command in hand, or none waiting, nothing happens. -/
def execQueuedCommandStart (s : State) : Host.Outcome State Fault Refusal :=
  .next (startQueued s)

end Sys2Proof.Machine
end

