-- ==== Sys2Proof/Machine/Dispatch.lean ====
section
/-! DEFINITION. One arm per command of the block. -/

namespace Sys2Proof.Machine

open Sys2Proof

/-- The effect of a command on everything but the queue of events. -/
def exec (i : Instr) (s : State) : Host.Outcome State Fault Refusal :=
  match i with
  | .powerOnReset => Sys2Proof.Machine.execPowerOnReset s
  | .selectFall => Sys2Proof.Machine.execSelectFall s
  | .frameEnd lengthComplete => Sys2Proof.Machine.execFrameEnd lengthComplete s
  | .unknownCommand len code => Sys2Proof.Machine.execUnknownCommand len code s
  | .queuedCommandStart => Sys2Proof.Machine.execQueuedCommandStart s
  | .commandCompletion => Sys2Proof.Machine.execCommandCompletion s
  | .noOp len => Sys2Proof.Machine.execNoOp len s
  | .readDistrictSettings len => Sys2Proof.Machine.execReadDistrictSettings len s
  | .writeDistrictSettings len p => Sys2Proof.Machine.execWriteDistrictSettings len p s
  | .readContainerConfig len c => Sys2Proof.Machine.execReadContainerConfig len c s
  | .writeContainerConfig len c p => Sys2Proof.Machine.execWriteContainerConfig len c p s
  | .start len c => Sys2Proof.Machine.execStart len c s
  | .retire len c => Sys2Proof.Machine.execRetire len c s
  | .setClock len minute week => Sys2Proof.Machine.execSetClock len minute week s
  | .readClock len => Sys2Proof.Machine.execReadClock len s
  | .triggerRollover len => Sys2Proof.Machine.execTriggerRollover len s
  | .insertCard len card p => Sys2Proof.Machine.execInsertCard len card p s
  | .updateCard len card p => Sys2Proof.Machine.execUpdateCard len card p s
  | .removeCard len card => Sys2Proof.Machine.execRemoveCard len card s
  | .readCard len card mode => Sys2Proof.Machine.execReadCard len card mode s
  | .peekLog len n => Sys2Proof.Machine.execPeekLog len n s
  | .releaseLog len n => Sys2Proof.Machine.execReleaseLog len n s
  | .readContainerStatus len c => Sys2Proof.Machine.execReadContainerStatus len c s
  | .resetEstimate len c value => Sys2Proof.Machine.execResetEstimate len c value s
  | .adjustEstimate len c amount => Sys2Proof.Machine.execAdjustEstimate len c amount s
  | .postOrder len c priority label oneShot => Sys2Proof.Machine.execPostOrder len c priority label oneShot s
  | .abortOrder len number => Sys2Proof.Machine.execAbortOrder len number s
  | .readOrders len first => Sys2Proof.Machine.execReadOrders len first s
  | .readHistory len n => Sys2Proof.Machine.execReadHistory len n s
  | .serviceHoldOn len c => Sys2Proof.Machine.execServiceHoldOn len c s
  | .serviceHoldOff len c => Sys2Proof.Machine.execServiceHoldOff len c s
  | .releaseOrphan len c => Sys2Proof.Machine.execReleaseOrphan len c s
  | .clearFault len c => Sys2Proof.Machine.execClearFault len c s
  | .busQuiet len => Sys2Proof.Machine.execBusQuiet len s
  | .busActive len => Sys2Proof.Machine.execBusActive len s
  | .readBusFlags len => Sys2Proof.Machine.execReadBusFlags len s
  | .clearBusFlags len requests => Sys2Proof.Machine.execClearBusFlags len requests s
  | .readAttention len => Sys2Proof.Machine.execReadAttention len s
  | .clearAttention len requests => Sys2Proof.Machine.execClearAttention len requests s
  | .maskAttention len enables => Sys2Proof.Machine.execMaskAttention len enables s
  | .readDenialCounters len requests => Sys2Proof.Machine.execReadDenialCounters len requests s
  | .serviceReset len => Sys2Proof.Machine.execServiceReset len s
  | .minuteTick => Sys2Proof.Machine.execMinuteTick s
  | .slotEnd rx => Sys2Proof.Machine.execSlotEnd rx s
  | .lineEdge level heldMicros transmitting => Sys2Proof.Machine.execLineEdge level heldMicros transmitting s
  | .wakeTfElapsed => Sys2Proof.Machine.execWakeTfElapsed s
  | .wakeWindowExpiry => Sys2Proof.Machine.execWakeWindowExpiry s
  | .stuckLineDetected => Sys2Proof.Machine.execStuckLineDetected s
  | .blockedRecovery => Sys2Proof.Machine.execBlockedRecovery s
  | .tInactExpiry => Sys2Proof.Machine.execTInactExpiry s
  | .denialDisplayExpiry c => Sys2Proof.Machine.execDenialDisplayExpiry c s
  | .tOwExpiry c => Sys2Proof.Machine.execTOwExpiry c s
  | .tDepExpiry c => Sys2Proof.Machine.execTDepExpiry c s
  | .tClExpiry c => Sys2Proof.Machine.execTClExpiry c s
  | .tQExpiry c => Sys2Proof.Machine.execTQExpiry c s
  | .tDockExpiry => Sys2Proof.Machine.execTDockExpiry s
  | .vehicleFrameDiscarded => Sys2Proof.Machine.execVehicleFrameDiscarded s
  | .unknownMessage vid => Sys2Proof.Machine.execUnknownMessage vid s
  | .dock fits vid fractions => Sys2Proof.Machine.execDock fits vid fractions s
  | .refresh fits vid => Sys2Proof.Machine.execRefresh fits vid s
  | .status fits vid => Sys2Proof.Machine.execStatus fits vid s
  | .undock fits vid => Sys2Proof.Machine.execUndock fits vid s
  | .claim fits vid c => Sys2Proof.Machine.execClaim fits vid c s
  | .liftReport fits vid c outcome mass => Sys2Proof.Machine.execLiftReport fits vid c outcome mass s
  | .release fits vid c => Sys2Proof.Machine.execRelease fits vid c s
  | .deassertTimerExpiry => Sys2Proof.Machine.execDeassertTimerExpiry s

end Sys2Proof.Machine
end

