-- ==== Sys2Proof/Machine/Frame.lean ====
section
/-! DEFINITION. The bytes of a frame of the operations port: the codes and parameter lengths of the commands, the
bytes of a command and the command of the bytes, what a frame of given bytes comes to, and the byte the part
returns in each position (R189, R190, R200). -/

namespace Sys2Proof.Machine

open Sys2Proof

/-! ## The catalogue -/

/-- The command code of each command of the catalogue; none for an event (R200). -/
def commandCode (i : Instr) : Option Nat :=
  match i with
  | .noOp _ => some 0
  | .readDistrictSettings _ => some 1
  | .writeDistrictSettings _ _ => some 2
  | .readContainerConfig _ _ => some 3
  | .writeContainerConfig _ _ _ => some 4
  | .start _ _ => some 5
  | .retire _ _ => some 6
  | .setClock _ _ _ => some 7
  | .readClock _ => some 8
  | .triggerRollover _ => some 9
  | .insertCard _ _ _ => some 10
  | .updateCard _ _ _ => some 11
  | .removeCard _ _ => some 12
  | .readCard _ _ _ => some 13
  | .peekLog _ _ => some 14
  | .releaseLog _ _ => some 15
  | .readContainerStatus _ _ => some 16
  | .resetEstimate _ _ _ => some 17
  | .adjustEstimate _ _ _ => some 18
  | .postOrder _ _ _ _ _ => some 19
  | .abortOrder _ _ => some 20
  | .readOrders _ _ => some 21
  | .readHistory _ _ => some 22
  | .serviceHoldOn _ _ => some 23
  | .serviceHoldOff _ _ => some 24
  | .releaseOrphan _ _ => some 25
  | .clearFault _ _ => some 26
  | .busQuiet _ => some 27
  | .busActive _ => some 28
  | .readBusFlags _ => some 29
  | .clearBusFlags _ _ => some 30
  | .readAttention _ => some 31
  | .clearAttention _ _ => some 32
  | .maskAttention _ _ => some 33
  | .readDenialCounters _ _ => some 34
  | .serviceReset _ => some 35
  | .unknownCommand _ code => some code.toNat
  | _ => none

/-- The parameter length of each command of the catalogue (R200); none for an event and for a code that
names no command. -/
def commandLength (i : Instr) : Option Nat :=
  match i with
  | .noOp _ => some 0
  | .readDistrictSettings _ => some 0
  | .writeDistrictSettings _ _ => some 48
  | .readContainerConfig _ _ => some 1
  | .writeContainerConfig _ _ _ => some 24
  | .start _ _ => some 1
  | .retire _ _ => some 1
  | .setClock _ _ _ => some 4
  | .readClock _ => some 0
  | .triggerRollover _ => some 0
  | .insertCard _ _ _ => some 10
  | .updateCard _ _ _ => some 10
  | .removeCard _ _ => some 4
  | .readCard _ _ _ => some 5
  | .peekLog _ _ => some 1
  | .releaseLog _ _ => some 1
  | .readContainerStatus _ _ => some 1
  | .resetEstimate _ _ _ => some 3
  | .adjustEstimate _ _ _ => some 3
  | .postOrder _ _ _ _ _ => some 5
  | .abortOrder _ _ => some 2
  | .readOrders _ _ => some 1
  | .readHistory _ _ => some 1
  | .serviceHoldOn _ _ => some 1
  | .serviceHoldOff _ _ => some 1
  | .releaseOrphan _ _ => some 1
  | .clearFault _ _ => some 1
  | .busQuiet _ => some 0
  | .busActive _ => some 0
  | .readBusFlags _ => some 0
  | .clearBusFlags _ _ => some 1
  | .readAttention _ => some 0
  | .clearAttention _ _ => some 2
  | .maskAttention _ _ => some 2
  | .readDenialCounters _ _ => some 1
  | .serviceReset _ => some 0
  | _ => none

/-- The length byte of a command's frame (R189); 0 for an event. -/
def lengthByte (i : Instr) : Byte :=
  match i with
  | .noOp len => len
  | .readDistrictSettings len => len
  | .writeDistrictSettings len _ => len
  | .readContainerConfig len _ => len
  | .writeContainerConfig len _ _ => len
  | .start len _ => len
  | .retire len _ => len
  | .setClock len _ _ => len
  | .readClock len => len
  | .triggerRollover len => len
  | .insertCard len _ _ => len
  | .updateCard len _ _ => len
  | .removeCard len _ => len
  | .readCard len _ _ => len
  | .peekLog len _ => len
  | .releaseLog len _ => len
  | .readContainerStatus len _ => len
  | .resetEstimate len _ _ => len
  | .adjustEstimate len _ _ => len
  | .postOrder len _ _ _ _ => len
  | .abortOrder len _ => len
  | .readOrders len _ => len
  | .readHistory len _ => len
  | .serviceHoldOn len _ => len
  | .serviceHoldOff len _ => len
  | .releaseOrphan len _ => len
  | .clearFault len _ => len
  | .busQuiet len => len
  | .busActive len => len
  | .readBusFlags len => len
  | .clearBusFlags len _ => len
  | .readAttention len => len
  | .clearAttention len _ => len
  | .maskAttention len _ => len
  | .readDenialCounters len _ => len
  | .serviceReset len => len
  | .unknownCommand len _ => len
  | _ => 0#8

/-! ## Parameters -/

/-- The parameter byte at a place; 0 past the end, where the length byte is refused (R191 check 2). -/
def byteAt (p : List Byte) (i : Nat) : Byte :=
  p.getD i 0#8

/-- The two-byte value at a place, most significant byte first (R192). -/
def halfAt (p : List Byte) (i : Nat) : Half :=
  byteAt p i ++ byteAt p (i + 1)

/-- The four-byte value at a place, most significant byte first (R192). -/
def quadAt (p : List Byte) (i : Nat) : Quad :=
  halfAt p i ++ halfAt p (i + 2)

/-- The bytes of a two-byte value (R192). -/
def halfBytes (v : Half) : List Byte :=
  [v.extractLsb' 8 8, v.extractLsb' 0 8]

/-- The bytes of a four-byte value (R192). -/
def quadBytes (v : Quad) : List Byte :=
  halfBytes (v.extractLsb' 16 16) ++ halfBytes (v.extractLsb' 0 16)

/-- The card fields at a place, in the order of R67 (log entry 33). -/
def cardParamsAt (p : List Byte) (i : Nat) : CardParams :=
  { household := halfAt p i, status := byteAt p (i + 2), plan := byteAt p (i + 3)
    clusters := byteAt p (i + 4), fractions := byteAt p (i + 5) }

/-- The bytes of the card fields (R67; log entry 33). -/
def cardParamsBytes (v : CardParams) : List Byte :=
  halfBytes v.household ++ [v.status, v.plan, v.clusters, v.fractions]

/-- The configuration fields at a place, in the order of R1 (log entry 33). -/
def containerParamsAt (p : List Byte) (i : Nat) : ContainerParams :=
  { present := byteAt p i, fraction := byteAt p (i + 1), cluster := byteAt p (i + 2)
    capacity := halfAt p (i + 3), depth := halfAt p (i + 5), drum := byteAt p (i + 7)
    charge := byteAt p (i + 8), tOrder := byteAt p (i + 9), tClose := byteAt p (i + 10)
    tReopen := byteAt p (i + 11), omax := halfAt p (i + 12), kmax := byteAt p (i + 14)
    vmin := halfAt p (i + 15), residual := halfAt p (i + 17), fDoubt := byteAt p (i + 19)
    fBlind := byteAt p (i + 20), rClean := byteAt p (i + 21), sBlind := byteAt p (i + 22) }

/-- The bytes of the configuration fields (R1; log entry 33). -/
def containerParamsBytes (v : ContainerParams) : List Byte :=
  [v.present, v.fraction, v.cluster] ++ halfBytes v.capacity ++ halfBytes v.depth ++
    [v.drum, v.charge, v.tOrder, v.tClose, v.tReopen] ++ halfBytes v.omax ++ [v.kmax] ++
    halfBytes v.vmin ++ halfBytes v.residual ++ [v.fDoubt, v.fBlind, v.rClean, v.sBlind]

/-- The district settings at a place, in the order of the table of R201. -/
def districtParamsAt (p : List Byte) (i : Nat) : DistrictParams :=
  { period := byteAt p i, rollover := halfAt p (i + 1)
    curfew := Vector.ofFn fun f : Fin 5 => ⟨halfAt p (i + 3 + 4 * f.val), halfAt p (i + 5 + 4 * f.val)⟩
    plans := Vector.ofFn fun f : Fin 16 => byteAt p (i + 23 + f.val)
    nLost := byteAt p (i + 39), tInact := halfAt p (i + 40), tOw := byteAt p (i + 42)
    tDep := byteAt p (i + 43), tCl := byteAt p (i + 44), tQ := byteAt p (i + 45)
    tDock := halfAt p (i + 46) }

/-- The bytes of the district settings as Write District Settings carries them (R201). -/
def districtParamsBytes (v : DistrictParams) : List Byte :=
  [v.period] ++ halfBytes v.rollover ++
    v.curfew.toList.flatMap (fun w => halfBytes w.start ++ halfBytes w.stop) ++ v.plans.toList ++
    [v.nLost] ++ halfBytes v.tInact ++ [v.tOw, v.tDep, v.tCl, v.tQ] ++ halfBytes v.tDock

/-- The parameter bytes of a command, in the order of the rule that gives the command (R200; log entry 33). -/
def parameterBytes (i : Instr) : List Byte :=
  match i with
  | .noOp _ => []
  | .readDistrictSettings _ => []
  | .writeDistrictSettings _ a => districtParamsBytes a
  | .readContainerConfig _ a => [a]
  | .writeContainerConfig _ a b => [a] ++ containerParamsBytes b
  | .start _ a => [a]
  | .retire _ a => [a]
  | .setClock _ a b => halfBytes a ++ halfBytes b
  | .readClock _ => []
  | .triggerRollover _ => []
  | .insertCard _ a b => quadBytes a ++ cardParamsBytes b
  | .updateCard _ a b => quadBytes a ++ cardParamsBytes b
  | .removeCard _ a => quadBytes a
  | .readCard _ a b => quadBytes a ++ [b]
  | .peekLog _ a => [a]
  | .releaseLog _ a => [a]
  | .readContainerStatus _ a => [a]
  | .resetEstimate _ a b => [a] ++ halfBytes b
  | .adjustEstimate _ a b => [a] ++ halfBytes b
  | .postOrder _ a b c d => [a] ++ [b] ++ halfBytes c ++ [d]
  | .abortOrder _ a => halfBytes a
  | .readOrders _ a => [a]
  | .readHistory _ a => [a]
  | .serviceHoldOn _ a => [a]
  | .serviceHoldOff _ a => [a]
  | .releaseOrphan _ a => [a]
  | .clearFault _ a => [a]
  | .busQuiet _ => []
  | .busActive _ => []
  | .readBusFlags _ => []
  | .clearBusFlags _ a => [a]
  | .readAttention _ => []
  | .clearAttention _ a => halfBytes a
  | .maskAttention _ a => halfBytes a
  | .readDenialCounters _ a => [a]
  | .serviceReset _ => []
  | _ => []

/-- The bytes the processor sends for a command whose length byte is in order: code, length, parameters
(R189). -/
def commandBytes (i : Instr) : List Byte :=
  BitVec.ofNat 8 ((commandCode i).getD 0) :: lengthByte i :: parameterBytes i

/-! ## Reading a frame -/

/-- The command that a code, a length byte and the parameter bytes spell (R189, R200). -/
def commandOf (code len : Byte) (p : List Byte) : Instr :=
  match code.toNat with
  | 0 => .noOp len
  | 1 => .readDistrictSettings len
  | 2 => .writeDistrictSettings len (districtParamsAt p 0)
  | 3 => .readContainerConfig len (byteAt p 0)
  | 4 => .writeContainerConfig len (byteAt p 0) (containerParamsAt p 1)
  | 5 => .start len (byteAt p 0)
  | 6 => .retire len (byteAt p 0)
  | 7 => .setClock len (halfAt p 0) (halfAt p 2)
  | 8 => .readClock len
  | 9 => .triggerRollover len
  | 10 => .insertCard len (quadAt p 0) (cardParamsAt p 4)
  | 11 => .updateCard len (quadAt p 0) (cardParamsAt p 4)
  | 12 => .removeCard len (quadAt p 0)
  | 13 => .readCard len (quadAt p 0) (byteAt p 4)
  | 14 => .peekLog len (byteAt p 0)
  | 15 => .releaseLog len (byteAt p 0)
  | 16 => .readContainerStatus len (byteAt p 0)
  | 17 => .resetEstimate len (byteAt p 0) (halfAt p 1)
  | 18 => .adjustEstimate len (byteAt p 0) (halfAt p 1)
  | 19 => .postOrder len (byteAt p 0) (byteAt p 1) (halfAt p 2) (byteAt p 4)
  | 20 => .abortOrder len (halfAt p 0)
  | 21 => .readOrders len (byteAt p 0)
  | 22 => .readHistory len (byteAt p 0)
  | 23 => .serviceHoldOn len (byteAt p 0)
  | 24 => .serviceHoldOff len (byteAt p 0)
  | 25 => .releaseOrphan len (byteAt p 0)
  | 26 => .clearFault len (byteAt p 0)
  | 27 => .busQuiet len
  | 28 => .busActive len
  | 29 => .readBusFlags len
  | 30 => .clearBusFlags len (byteAt p 0)
  | 31 => .readAttention len
  | 32 => .clearAttention len (halfAt p 0)
  | 33 => .maskAttention len (halfAt p 0)
  | 34 => .readDenialCounters len (byteAt p 0)
  | 35 => .serviceReset len
  | _ => .unknownCommand len code

/-- What a frame comes to (R189). -/
inductive FrameReading where
  | summaryRead | discarded | command (i : Instr)
deriving DecidableEq, Repr

/-- What the bytes received in a frame come to: code, length n, exactly n parameter bytes; every later byte is
ignored (R189). -/
def readFrame (received : List Byte) : FrameReading :=
  match received with
  | code :: len :: rest =>
    if len.toNat ≤ rest.length then .command (commandOf code len (rest.take len.toNat)) else .discarded
  | _ => .summaryRead

/-- The events that a frame of these bytes brings, from the fall of the select line to its rise (R189). -/
def frameEvents (received : List Byte) : List Instr :=
  match readFrame received with
  | .summaryRead => [.selectFall, .frameEnd false]
  | .discarded => [.selectFall, .frameEnd true]
  | .command i => [.selectFall, i, .frameEnd true]

/-! ## The bytes returned -/

/-- The wait value (R190). -/
def waitValue : Byte := 255#8

/-- The byte the part returns at a position of a frame with `n` parameter bytes, `given` being the number of
bytes of the response returned before it: the Summary byte at position 0; 0 up to and with the turnaround;
then the wait value until the command has been carried out, the response, and 0 after it (R189, R190).
Outside a frame it returns nothing. -/
def returnedByte (p : Port) (n position given : Nat) : Option Byte :=
  match p.frame with
  | .none => none
  | .begun => if position = 0 then p.summary else some 0#8
  | .waiting => if position < n + 3 then some 0#8 else some waitValue
  | .responding r => if position < n + 3 then some 0#8 else some ((responseBytes r).getD given 0#8)

end Sys2Proof.Machine
end

