-- ==== Sys2Proof/Safety.lean ====
section
/-! DEFINITION. What counts as a sound state: the relations the manual says hold at all times, each as a
decidable predicate over the state. -/

namespace Sys2Proof.Machine

open Sys2Proof

/-! ## Ranges -/

/-- The configuration fields of a record lie in the ranges of R1. -/
abbrev ContainerConfig.inRange (k : ContainerConfig) : Prop :=
  k.cluster ≤ 7 ∧ (500 ≤ k.capacity ∧ k.capacity ≤ 5000) ∧ (500 ≤ k.depth ∧ k.depth ≤ 4000) ∧
  (10 ≤ k.drum ∧ k.drum ≤ 250) ∧ k.charge ≤ 4 ∧ (10 ≤ k.tOrder ∧ k.tOrder ≤ 120) ∧
  (20 ≤ k.tClose ∧ k.tClose ≤ 125) ∧ k.tReopen < k.tClose ∧ (10 ≤ k.omax ∧ k.omax ≤ 1000) ∧
  (1 ≤ k.kmax ∧ k.kmax ≤ 64) ∧ (20 ≤ k.vmin ∧ k.vmin ≤ 2000) ∧ k.residual ≤ 300 ∧
  (1 ≤ k.fDoubt ∧ k.fDoubt ≤ 15) ∧ (k.fDoubt ≤ k.fBlind ∧ k.fBlind ≤ 15) ∧
  (1 ≤ k.rClean ∧ k.rClean ≤ 31) ∧ (2 ≤ k.sBlind ∧ k.sBlind ≤ 64)

/-- The estimate record lies in the ranges R104 states for every container, under its configuration. -/
abbrev Estimate.inRange (k : ContainerConfig) (e : Estimate) : Prop :=
  e.fill ≤ ceiling k ∧ e.rem ≤ 255 ∧ (64 ≤ e.bulk ∧ e.bulk ≤ 512) ∧ e.volume ≤ 65535 ∧
  e.fails ≤ 15 ∧ e.clean ≤ 31 ∧ e.silent ≤ 64

/-- The tallies and counters lie in their ranges: the denial counters and tallies (R83, R6), the slot counters
(R29), the stray tallies (R54), the drum baselines (R50), the order-number counter (R146); the history holds at
most 64 entries (R163). -/
abbrev State.countersInRange (s : State) : Prop :=
  (∀ i : Fin 11, s.denials[i] ≤ 65535) ∧
  (1 ≤ s.orderCounter ∧ s.orderCounter ≤ 65535) ∧ s.history.length ≤ 64 ∧
  ∀ c : Box, (s.bay c).record.tally ≤ 65535 ∧ (s.bay c).column.consecutive ≤ 15 ∧
    (s.bay c).column.total ≤ 65535 ∧ (s.bay c).hatch.stray ≤ 65535 ∧
    ∀ n ∈ (s.bay c).hatch.baseline, n ≤ 255

/-- Every container's configuration and estimate record lie in their ranges (R1, R104). -/
abbrev State.recordsInRange (s : State) : Prop :=
  ∀ c : Box, (s.bay c).record.config.inRange ∧ (s.bay c).est.inRange (s.bay c).record.config

/-- A reading window holds up to five entries in ascending order of value, their arrival ranks being
1 to the number of entries (R109; the numbering is the model's, log entry 31). -/
abbrev windowOrdered (w : List Reading) : Prop :=
  w.Pairwise (fun a b => a.value ≤ b.value) ∧ w.length ≤ 5 ∧
  (w.map Reading.rank).Perm (List.range' 1 w.length)

/-- What an estimate record holds of measurements lies in 0..C, its window is in order, and the pending
adjustment lies in −1000..+1000 (R104, R109). -/
abbrev Estimate.measuresInRange (k : ContainerConfig) (e : Estimate) : Prop :=
  windowOrdered e.window ∧ (∀ r ∈ e.window, r.value ≤ k.capacity) ∧
  (∀ m ∈ e.mPrev, m ≤ k.capacity) ∧ (∀ m ∈ e.mLast, m ≤ k.capacity) ∧
  (-1000 ≤ e.adjust ∧ e.adjust ≤ 1000)

/-- Every container's measurements lie in their ranges (R104, R109). -/
abbrev State.measuresInRange (s : State) : Prop :=
  ∀ c : Box, (s.bay c).est.measuresInRange (s.bay c).record.config

/-- Each district setting lies in its range (R201). -/
abbrev Settings.inRange (v : Settings) : Prop :=
  (5 ≤ v.period ∧ v.period ≤ 60) ∧ v.rollover ≤ 10079 ∧
  (∀ i : Fin 5, (v.curfew[i]).start ≤ 1439 ∧ (v.curfew[i]).stop ≤ 1439) ∧
  (∀ i : Fin 16, v.plans[i] ≤ 250) ∧ (2 ≤ v.nLost ∧ v.nLost ≤ 15) ∧
  (30 ≤ v.tInact ∧ v.tInact ≤ 600) ∧ (2 ≤ v.tOw ∧ v.tOw ≤ 30) ∧ (10 ≤ v.tDep ∧ v.tDep ≤ 120) ∧
  (2 ≤ v.tCl ∧ v.tCl ≤ 30) ∧ (5 ≤ v.tQ ∧ v.tQ ≤ 120) ∧ (10 ≤ v.tDock ∧ v.tDock ≤ 600)

/-- The wall clock lies in its ranges (R15). -/
abbrev Clock.inRange (k : Clock) : Prop :=
  k.subMinute < 1966080 ∧ k.minute ≤ 10079 ∧ k.week ≤ 65535

/-! ## Cards and the log -/

/-- The card list is in strictly ascending card number order, holds at most 4096 records, and no record
holds the number 0 or the all-ones value (R65, R66). -/
abbrev State.cardsOrdered (s : State) : Prop :=
  s.cards.Pairwise (fun a b => a.number < b.number) ∧ s.cards.length ≤ 4096 ∧
  ∀ k ∈ s.cards, 1 ≤ k.number ∧ k.number ≤ 4294967294

/-- The places of the record storage that have held a record cover the list and lie within the capacity (R66; log
entry 35). -/
abbrev State.storageCovers (s : State) : Prop :=
  s.cards.length ≤ s.cardStorage.used ∧ s.cardStorage.used ≤ 4096

/-- Every card's remaining allowance lies between 0 and the value of its plan (R88). -/
abbrev State.allowancesBounded (s : State) : Prop :=
  ∀ k ∈ s.cards, k.remaining ≤ s.settings.plans[k.plan]

/-- The card numbers of the active hatch cycles, in ascending container number. -/
def activeCards (s : State) : List Nat :=
  allBoxes.filterMap fun c => (s.bay c).hatch.cycle.map Cycle.card

/-- The open-card set holds exactly the card numbers of the active cycles, without duplicates; the reserved
log slots count the active cycles (R71, R96). -/
abbrev State.cyclesAgree (s : State) : Prop :=
  s.openCards.Perm (activeCards s) ∧ s.openCards.Nodup ∧ s.reserved = s.openCards.length

/-- Occupied plus reserved never exceeds 1024 (R96). -/
abbrev State.logHasRoom (s : State) : Prop :=
  s.log.length + s.reserved ≤ 1024

/-- The records of the log carry consecutive sequence numbers, the next one being the next record's (R95). -/
abbrev State.logInSequence (s : State) : Prop :=
  s.nextSequence < 4294967296 ∧
  ∀ i : Fin s.log.length, ((s.log[i]).sequence + (s.log.length - i.val)) % 4294967296 = s.nextSequence

/-! ## Hatch cycles and the bus -/

/-- The phase of a cycle against its confirmed deposit and its timers: T_ow runs exactly in Granted, T_dep
exactly in Opened, a deposit is confirmed exactly in Deposited, and a cycle in Deposited has a close
demand standing; with no cycle neither timer runs (R47, R49, R52, R53). -/
abbrev Hatch.timersAgree (h : Hatch) : Prop :=
  (h.tOw.isSome = true ↔ h.cycle.map Cycle.phase = some .granted) ∧
  (h.tDep.isSome = true ↔ h.cycle.map Cycle.phase = some .opened) ∧
  (∀ k ∈ h.cycle, (k.confirmed = true ↔ k.phase = .deposited) ∧
    (h.demand.isSome = true ↔ k.phase = .deposited))

/-- No hatch cycle is active while the bus is Quiet or Blocked, and no slot runs while it is Blocked (R37,
R42, R43). -/
abbrev State.silentBusIdle (s : State) : Prop :=
  (isPolling s.bus = false → ∀ c : Box, (s.bay c).hatch.cycle = none) ∧
  (s.bus.state = .blocked → s.bus.slots = [])

/-- A container with an active hatch cycle is started and has no fault attribute: no container that is
Dormant or Fault has an active cycle, and a fault attribute set during a cycle ends it (R48). -/
abbrev Bay.cycleFits (b : Bay) : Prop :=
  b.cycleActive = true → b.record.started = true ∧ b.record.fault = .none

/-- Timers and cycle fit at every container (R47, R48, R49). -/
abbrev State.hatchesAgree (s : State) : Prop :=
  ∀ c : Box, (s.bay c).hatch.timersAgree ∧ (s.bay c).cycleFits

/-- The remembered target is present exactly while the bus is Blocked, the qualifier runs only while it is
Quiet, and T_inact runs exactly while it is Woken (R34, R38, R40). -/
abbrev Bus.modesAgree (b : Bus) : Prop :=
  (b.target.isSome = true ↔ b.state = .blocked) ∧ (b.qualifier ≠ .off → b.state = .quiet) ∧
  (b.tInact.isSome = true ↔ b.state = .woken) ∧ b.counter ≤ 63

/-! ## Orders, holds and the dock -/

/-- At most one active order per container, and none for a Dormant container (R145). -/
abbrev State.ordersFit (s : State) : Prop :=
  (s.orders.map Order.container).Nodup ∧
  ∀ o ∈ s.orders, (s.bay o.container).record.started = true

/-- The vehicle id is present exactly while the order is Offered or Claimed, priority and attempts lie in
their ranges (R144). -/
abbrev Order.fits (o : Order) : Prop :=
  (o.vehicle.isSome = true ↔ o.state ≠ .pending) ∧ o.priority ≤ 3 ∧ o.attempts ≤ 2

/-- Every Claimed order's container carries an emptying hold under the same vehicle id (R153). -/
abbrev State.claimsHeld (s : State) : Prop :=
  ∀ o ∈ s.orders, o.state = .claimed → (s.bay o.container).hold.emptying = o.vehicle

/-- Orders are Offered only while a vehicle is docked and only to that vehicle (R151). -/
abbrev State.offersDocked (s : State) : Prop :=
  ∀ o ∈ s.orders, o.state = .offered → o.vehicle = s.dock.map DockRecord.vehicle

/-- The marks of a hold record: with no emptying source the orphan and reported marks are clear, with no
source the record is clean, and T_q runs exactly while the container is Quiescing (R176, R182). -/
abbrev Bay.holdFits (b : Bay) : Prop :=
  (b.hold.emptying = none → b.hold.orphan = false ∧ b.hold.reported = false) ∧
  (b.hold.requested = false → b.hold.forced = false) ∧
  (b.hold.tQ.isSome = true ↔ b.hold.requested = true ∧ b.cycleActive = true)

/-- An emptying source without the orphan mark is the docked vehicle's, and one with it is not (R174, R176). -/
abbrev State.orphansAgree (s : State) : Prop :=
  ∀ c : Box, ∀ v ∈ (s.bay c).hold.emptying,
    ((s.bay c).hold.orphan = false ↔ s.dock.map DockRecord.vehicle = some v)

/-- The relations of the order list together (R144, R145, R151, R153). -/
abbrev State.ordersAgree (s : State) : Prop :=
  s.ordersFit ∧ (∀ o ∈ s.orders, o.fits) ∧ s.claimsHeld ∧ s.offersDocked

/-- The relations of the hold records together (R174, R176, R182). -/
abbrev State.holdsAgree (s : State) : Prop :=
  (∀ c : Box, (s.bay c).holdFits) ∧ s.orphansAgree

/-! ## Attention -/

/-- The attention line against its condition: Asserted only while it holds, Released only while it does
not (R198). -/
abbrev Port.lineAgrees (p : Port) : Prop :=
  (p.line = .asserted → attentionCondition p = true) ∧
  (p.line = .released → attentionCondition p = false)

/-! ## The terms claims use -/

/-- The byte that names a container. -/
def byteOf (c : Box) : Byte :=
  BitVec.ofNat 8 c.val

/-- No command is being carried out and none waits, so a command taken now is carried out at once (R190). -/
abbrev State.portIsFree (s : State) : Prop :=
  s.port.carrying = none ∧ s.port.waiting = []

/-- `s` with the marks that a command taken and carried out leaves at the port: the previous-frame
indication clear (R194), wait bytes in the frame, and the response in hand (R190). -/
def answered (s : State) (status : Status) (data : RespData) : State :=
  { s with port := { s.port with
      discarded := false, frame := .waiting, carrying := some ⟨status, data⟩ } }

/-- The commands of the operations port: those of the catalogue, and a code that names none (R200). -/
def isPortCommand (i : Instr) : Bool :=
  match i with
  | .unknownCommand _ _ => true
  | i => (commandLength i).isSome

/-- The byte in which a command carries the number of a container, for the commands that open with the
check of it (R192, R201). -/
def containerByte (i : Instr) : Option Byte :=
  match i with
  | .readContainerConfig _ c => some c
  | .writeContainerConfig _ c _ => some c
  | .start _ c => some c
  | .retire _ c => some c
  | .readContainerStatus _ c => some c
  | .resetEstimate _ c _ => some c
  | .adjustEstimate _ c _ => some c
  | .postOrder _ c _ _ _ => some c
  | .serviceHoldOn _ c => some c
  | .serviceHoldOff _ c => some c
  | .releaseOrphan _ c => some c
  | .clearFault _ c => some c
  | _ => none

/-- `s` after a vehicle message answered with a status other than OK: T_dock restarted where the frame came
from the docked id, and the reply with the hold list of the sender (R168, R170). -/
def turnedAway (vid : Half) (status : LinkStatus) (s : State) : State :=
  { restartDock vid s with
    reply := some ⟨status, holdList (restartDock vid s) vid.toNat, .nothing⟩ }

/-- The eleven checks of a presentation, in order, each with whether it fails and its reason (R72). The
checks that read the card's record read `k`, which stands for it once check 1 has found it. -/
def presentationChecks (s : State) (c : Box) (card : Nat) (k : CardRecord) (draining : Bool) :
    List (Bool × DenialReason) :=
  let b := s.bay c
  [(decide (s.cardOf card = none), .unknownCard),
   (decide (k.status = .suspended ∨ k.status = .lost), .cardBlocked),
   (!k.clusters.getLsbD b.record.config.cluster, .wrongCluster),
   (!inFractions b.record.config.fraction k.fractions, .wrongFraction),
   (decide (opState b = .dormant ∨ opState b = .quiescing ∨ opState b = .held ∨ opState b = .inFault ∨
      draining = true), .outOfService),
   (decide (opState b = .fullClosed), .containerFull),
   (underCurfew s b.record.config.fraction, .curfew),
   (decide (b.hatch.cycle ≠ none), .busy),
   (decide (card ∈ s.openCards), .cardInUse),
   (decide (k.remaining < b.record.config.charge), .noAllowance),
   (decide (1024 ≤ s.log.length + s.reserved), .logFull)]

/-- The reason of the first failing check, if one fails (R72). -/
def firstFailing (checks : List (Bool × DenialReason)) : Option DenialReason :=
  (checks.find? fun x => x.1).map fun x => x.2

end Sys2Proof.Machine
end

