-- ==== Sys2Proof/Certificates/Slice0/Obligations.lean ====
section
/-! DEFINITION. The statements about the DN32, chapter by chapter. Each docstring names the rule it comes from;
a clause that rests on a choice of the model names the log entry. -/

open Sys2Proof Sys2Proof.Machine

/-! ## The queue, reset, and the operations port -/

/-- O1. A step takes the event at the front of the queue and runs it with the rest waiting. That an empty
queue idles is the model's choice (log entry 1). -/
def Obligations.StepTakesTheFrontEvent : Prop :=
  (∀ (i : Instr) (rest : List Instr) (s : State),
    step { s with pending := i :: rest } = exec i { s with pending := rest }) ∧
  (∀ s : State, s.pending = [] → step s = .next s)

/-- O2. Every event of the table answers a next state, and none changes the queue of waiting events. The queue is the
model's own (log entry 1); that a power-on reset leaves it too is the model's choice (log entry 10). -/
def Obligations.EventsLeaveTheQueue : Prop :=
  ∀ (i : Instr) (s : State), ∃ t, exec i s = .next t ∧ t.pending = s.pending

/-- O3. Every power-on value (the reset tables of Chapters 1 to 10). The model's choices: the queue stays
(log entry 10), the line's level, the outputs not yet sent (log entry 10), the run of the line (log entry 16),
the cycle under way (log entry 9), the number of the next free draw (log entry 8), no command in hand and none
waiting at the port (log entry 34), the two counts from which the record storage is read (log entry 35). -/
def Obligations.PowerOnResetValues : Prop :=
  ∀ s : State, ∃ t, exec .powerOnReset s = .next t ∧
    (∀ c : Box, t.bay c =
      { record := { config := { present := false, fraction := .residual, cluster := 0, capacity := 3000,
                                depth := 2400, drum := 60, charge := 1, tOrder := 70, tClose := 90,
                                tReopen := 80, omax := 200, kmax := 8, vmin := 120, residual := 20,
                                fDoubt := 3, fBlind := 8, rClean := 4, sBlind := 16 },
                    started := false, fault := .none, tally := 0 },
        column := { consecutive := 0, total := 0, lost := false, last := none, answer := none,
                    downlink := none },
        hatch := { cycle := none, tOw := none, tDep := none, baseline := none, demand := none, stray := 0 },
        display := none,
        est := { fill := 0, rem := 0, bulk := 256, window := [], mPrev := none, mLast := none, volume := 0,
                 fails := 0, clean := 0, silent := 0, mode := .tracking, adjust := 0, offsetLimit := false,
                 rateLimit := false, missingMeasure := false, missingRate := false, closeFlag := false },
        hold := { service := false, emptying := none, orphan := false, reported := false, tQ := none,
                  forced := false } }) ∧
    (∀ c : Box, opState (t.bay c) = .dormant) ∧
    t.clock = { subMinute := 0, minute := 0, week := 0, set := false } ∧
    t.settings =
      { period := 15, rollover := 0, curfew := Vector.replicate 5 ⟨0, 0⟩, plans := Vector.replicate 16 0,
        nLost := 4, tInact := 90, tOw := 8, tDep := 45, tCl := 10, tQ := 30, tDock := 120 } ∧
    t.bus =
      { state := .active, target := none, counter := 0, flags := 0#6, firstWake := false, qualifier := .off,
        tInact := none, stuck := 0, level := .idle, heldTf := false, slots := List.replicate 8 none } ∧
    t.cards = [] ∧ t.cardStorage = { used := 0, removals := 0 } ∧
    (∀ place : Fin 4096, storedAt t place = .zeros) ∧ t.openCards = [] ∧ t.denials = Vector.replicate 11 0 ∧ t.sighting = none ∧
    t.log = [] ∧ t.reserved = 0 ∧ t.nextSequence = 0 ∧
    t.orders = [] ∧ t.orderCounter = 1 ∧ t.history = [] ∧ t.wrapped = false ∧
    t.dock = none ∧ t.reply = none ∧
    t.port =
      { frame := .none, summary := none, discarded := false, carrying := none, waiting := [],
        items := 1#10, mask := 1023#10, line := .asserted } ∧
    t.draws = 0 ∧ t.pending = s.pending

/-- O4. The fall of the select line begins a frame and forms the Summary byte from the state as it stands,
with the bits of the layout in section 10.8; nothing else changes (R193). -/
def Obligations.SelectFallFormsTheSummary : Prop :=
  ∀ s : State, ∃ t, exec .selectFall s = .next t ∧
    t = { s with port := { s.port with frame := .begun, summary := t.port.summary } } ∧
    ∃ b : Byte, t.port.summary = some b ∧
      (b.getLsbD 7 = true ↔ ∃ i : Fin 10, s.port.items.getLsbD i = true ∧ s.port.mask.getLsbD i = true) ∧
      (b.getLsbD 6 = true ↔ 768 ≤ s.log.length) ∧
      (b.getLsbD 5 = true ↔ ∃ c : Box, (s.bay c).record.fault ≠ .none) ∧
      (b.getLsbD 4 = true ↔ s.dock ≠ none) ∧
      b.extractLsb' 2 2 =
        (match s.bus.state with
          | .active => 0#2
          | .woken => 0#2
          | .draining => 1#2
          | .quiet => 2#2
          | .blocked => 3#2) ∧
      (b.getLsbD 1 = true ↔ s.clock.set = false) ∧
      (b.getLsbD 0 = true ↔ s.port.discarded = true)

/-- O5. The bytes of a frame and its end (section 10.1). What the bytes received come to: fewer than two a Summary
read, fewer parameters than the length byte declares a discarded frame, else the command of the code and exactly
those parameters. The byte returned in each position: the Summary byte, 0 up to the turnaround, the wait value
255, the response (status, two-byte count, data), 0 after it; the data of Read Attention begin with the attention
word of section 10.8 (its place is log entry 5), which Clear and Mask Attention return too; the district settings take
the 48 bytes of section 10.6, a deposit log record the 19 and a history entry the 18 of section 10.8, which end the data
of Peek Log and Read History. The end of a frame sets the previous-frame
indication where it is cut off after its length byte and before its command is taken. A completion hands the
response over, into its own frame only where no later command waits and the frame still runs; its effects came
when it started (log entry 2), and the positions are arguments, not state (log entry 4). -/
def Obligations.FramesEndAndCommandsComplete : Prop :=
  let byte (n k : Nat) : Byte := BitVec.ofNat 8 (n / 256 ^ k)
  let week (time : Option Stamp) : Nat := (time.map Stamp.week).getD 0
  let minute (time : Option Stamp) : Nat := (time.map Stamp.minute).getD 65535
  (∀ code len : Byte,
    readFrame [] = .summaryRead ∧ readFrame [code] = .summaryRead ∧
    (∀ rest : List Byte, rest.length < len.toNat → readFrame (code :: len :: rest) = .discarded) ∧
    (∀ p rest : List Byte, p.length = len.toNat →
      readFrame (code :: len :: (p ++ rest)) = .command (commandOf code len p))) ∧
  (∀ (p : Port) (n position given : Nat),
    (p.frame = .none → returnedByte p n position given = none) ∧
    (p.frame = .begun →
      returnedByte p n position given = if position = 0 then p.summary else some 0#8) ∧
    (p.frame = .waiting →
      returnedByte p n position given = some (if position ≤ n + 2 then 0#8 else 255#8)) ∧
    (∀ r : Response, p.frame = .responding r →
      returnedByte p n position given =
        some (if position ≤ n + 2 then 0#8
          else if h : given < (responseBytes r).length then (responseBytes r)[given] else 0#8))) ∧
  (∀ r : Response, ∃ status high low : Byte,
    responseBytes r = status :: high :: low :: dataBytes r.data ∧
    status.toNat =
      (match r.status with
        | .ok => 0
        | .okClamped => 1
        | .badCommand => 2
        | .badLength => 3
        | .notFound => 4
        | .duplicate => 5
        | .full => 6
        | .state => 7
        | .notHeld => 8) ∧
    status ≠ waitValue ∧
    ((dataBytes r.data).length ≤ 65535 → high.toNat * 256 + low.toNat = (dataBytes r.data).length)) ∧
  (∀ (items mask : BitVec 10) (level : AttentionLevel), ∃ (high low : Byte) (rest : List Byte),
    dataBytes (.attention items mask level) = high :: low :: rest ∧
    (∀ i : Fin 8, low.getLsbD i = items.getLsbD i) ∧
    ∀ i : Fin 8, high.getLsbD i = (decide (i.val < 2) && items.getLsbD (i.val + 8))) ∧
  (∀ v : BitVec 10,
    dataBytes (.items v) = [byte v.toNat 1, byte v.toNat 0] ∧
    dataBytes (.mask v) = [byte v.toNat 1, byte v.toNat 0]) ∧
  (∀ v : Settings,
    dataBytes (.settings v) =
      [byte v.period 0, byte v.rollover 1, byte v.rollover 0] ++
      ((List.finRange 5).flatMap fun i => [byte v.curfew[i].start 1, byte v.curfew[i].start 0,
        byte v.curfew[i].stop 1, byte v.curfew[i].stop 0]) ++
      ((List.finRange 16).map fun i => byte v.plans[i] 0) ++
      [byte v.nLost 0, byte v.tInact 1, byte v.tInact 0, byte v.tOw 0, byte v.tDep 0, byte v.tCl 0, byte v.tQ 0,
        byte v.tDock 1, byte v.tDock 0] ∧
    (dataBytes (.settings v)).length = 48) ∧
  (∀ r : LogRecord,
    let fraction :=
      match r.fraction with
      | .residual => 0
      | .paper => 1
      | .packaging => 2
      | .glass => 3
      | .organic => 4
    let outcome :=
      match r.outcome with
      | .deposit => 0
      | .noDeposit => 1
      | .cut => 2
      | .unconfirmed => 3
    logRecordBytes r =
      [byte r.sequence 3, byte r.sequence 2, byte r.sequence 1, byte r.sequence 0,
        byte (week r.time) 1, byte (week r.time) 0, byte (minute r.time) 1, byte (minute r.time) 0,
        byte r.card 3, byte r.card 2, byte r.card 1, byte r.card 0, byte r.household 1, byte r.household 0,
        byte r.container.val 0, byte fraction 0, byte outcome 0, byte r.applied 0, byte (r.after.getD 255) 0]) ∧
  (∀ e : HistoryEntry,
    let origin :=
      match e.origin with
      | .operations => 0
      | .auto => 1
      | .vehicle => 2
    let outcome :=
      match e.outcome with
      | .emptied => 0
      | .partLifted => 1
      | .failed => 2
      | .aborted => 3
      | .reset => 4
    let cause :=
      match e.cause with
      | none => 0
      | some .blocked => 1
      | some .linkLost => 2
    historyEntryBytes e =
      [byte e.number 1, byte e.number 0, byte e.label 1, byte e.label 0, byte e.container.val 0, byte origin 0,
        byte outcome 0, byte (if e.mark = true then 1 else 0) 0, byte cause 0,
        byte (e.mass.getD 0) 1, byte (e.mass.getD 0) 0, byte (e.vehicle.getD 0) 1, byte (e.vehicle.getD 0) 0,
        byte (week e.time) 1, byte (week e.time) 0, byte (minute e.time) 1, byte (minute e.time) 0,
        byte e.attempts 0]) ∧
  (∀ (records : List LogRecord) (occupancy reserved : Nat) (oldest : Option Nat), ∃ lead : List Byte,
    dataBytes (.logPeek records occupancy reserved oldest) = lead ++ records.flatMap logRecordBytes) ∧
  (∀ (left : Nat) (wrapped : Bool) (entries : List HistoryEntry), ∃ lead : List Byte,
    dataBytes (.historyRead left wrapped entries) = lead ++ entries.flatMap historyEntryBytes) ∧
  ∀ s : State,
    (∀ lengthComplete : Bool, exec (.frameEnd lengthComplete) s = .next
      { s with port := { s.port with
          frame := .none
          discarded := if s.port.frame = .begun ∧ lengthComplete = true then true else s.port.discarded } }) ∧
    (∀ r, s.port.carrying = some r → exec .commandCompletion s = .next
      { s with port := { s.port with
          carrying := none
          frame := if s.port.waiting = [] ∧ s.port.frame = .waiting then .responding r else s.port.frame } }) ∧
    (s.port.carrying = none → exec .commandCompletion s = .next s)

/-- O6. Taking a command (sections 10.1 and 10.2): behind a command in hand or waiting it waits, in the order
taken; otherwise it is carried out at once; a waiting command is carried out, in the same way, once none is
in hand; the length byte is checked first, then the number of a container. The catalogue (section 10.6): codes 0
to 35 name the commands in its order, and the code, the length and the parameter bytes of a command spell it. A
command row is the taking itself, whatever the frame (log entry 3); the order of the parameters is log entry 33. A
waiting command is carried out as of its start, its response with it; but a Read Container Status that waits returns
the figures of sections 7.2 and 7.5 as they stood when it was taken. Which fields those are, and that every other field
and every other waiting command reads the state of the start, is log entry 32. -/
def Obligations.CommandsAreTakenAndWait : Prop :=
  ((List.range 36).map fun n => commandOf (BitVec.ofNat 8 n) 0 []) =
    [.noOp 0, .readDistrictSettings 0, .writeDistrictSettings 0 (districtParamsAt [] 0),
      .readContainerConfig 0 0, .writeContainerConfig 0 0 (containerParamsAt [] 0), .start 0 0, .retire 0 0,
      .setClock 0 0 0, .readClock 0, .triggerRollover 0, .insertCard 0 0 (cardParamsAt [] 0),
      .updateCard 0 0 (cardParamsAt [] 0), .removeCard 0 0, .readCard 0 0 0, .peekLog 0 0, .releaseLog 0 0,
      .readContainerStatus 0 0, .resetEstimate 0 0 0, .adjustEstimate 0 0 0, .postOrder 0 0 0 0 0,
      .abortOrder 0 0, .readOrders 0 0, .readHistory 0 0, .serviceHoldOn 0 0, .serviceHoldOff 0 0,
      .releaseOrphan 0 0, .clearFault 0 0, .busQuiet 0, .busActive 0, .readBusFlags 0, .clearBusFlags 0 0,
      .readAttention 0, .clearAttention 0 0, .maskAttention 0 0, .readDenialCounters 0 0, .serviceReset 0] ∧
  (∀ (code len : Byte) (p : List Byte),
    (code.toNat ≤ 35 → commandCode (commandOf code len p) = some code.toNat ∧
      lengthByte (commandOf code len p) = len ∧ commandLength (commandOf code len p) ≠ none) ∧
    (36 ≤ code.toNat → commandOf code len p = .unknownCommand len code)) ∧
  (∀ (i : Instr) (n : Nat) (rest : List Byte), commandLength i = some n → (lengthByte i).toNat = n →
    (parameterBytes i).length = n ∧
    ∃ code : Byte, commandCode i = some code.toNat ∧
      readFrame (code :: lengthByte i :: (parameterBytes i ++ rest)) = .command i) ∧
  (∀ (i : Instr) (s : State), isPortCommand i = true → ¬ s.portIsFree →
    (∀ len c : Byte, i ≠ .readContainerStatus len c) →
    exec i s = .next { s with port := { s.port with
      discarded := false, frame := .waiting, waiting := s.port.waiting ++ [⟨i, none⟩] } }) ∧
  (∀ (len n : Byte) (s : State), ¬ s.portIsFree →
    let figures (b : Bay) : FillFigures :=
      let k := b.record.config
      let full := if b.est.mode = .doubtful then max b.est.fill (b.est.mLast.getD 0) else b.est.fill
      { mode := b.est.mode, closeFlag := b.est.closeFlag, effFill := full, effPercent := full * 100 / k.capacity
        tOrderL := k.tOrder * k.capacity / 100, tCloseL := k.tClose * k.capacity / 100
        tReopenL := k.tReopen * k.capacity / 100 }
    exec (.readContainerStatus len n) s = .next { s with port := { s.port with
      discarded := false, frame := .waiting
      waiting := s.port.waiting ++ [⟨.readContainerStatus len n,
        if h : n.toNat < 32 then some (figures (s.bay ⟨n.toNat, h⟩)) else none⟩] } }) ∧
  (∀ (i : Instr) (s : State), isPortCommand i = true → s.portIsFree →
    let u := { s with port := { s.port with discarded := false, frame := .waiting } }
    exec i s = .next { (carryOut i u).state with port := { (carryOut i u).state.port with
      carrying := some (carryOut i u).response } }) ∧
  (∀ (s : State) (i : Instr) (figures : Option FillFigures) (rest : List Waiting),
    s.port.carrying = none → s.port.waiting = ⟨i, figures⟩ :: rest →
    let u := { s with port := { s.port with waiting := rest } }
    let now := (carryOut i u).response
    exec .queuedCommandStart s = .next { (carryOut i u).state with port := { (carryOut i u).state.port with
      carrying := some (match figures, now.data with
        | some f, .containerStatus v =>
          { now with data := .containerStatus { v with
              est := { v.est with mode := f.mode, closeFlag := f.closeFlag }
              effFill := f.effFill, effPercent := f.effPercent
              tOrderL := f.tOrderL, tCloseL := f.tCloseL, tReopenL := f.tReopenL } }
        | _, _ => now) } }) ∧
  (∀ (s : State) (c : Box), carryOut (.readContainerStatus 1 (byteOf c)) s =
    ⟨s, ⟨.ok, .containerStatus (containerStatus s c)⟩⟩) ∧
  (∀ s : State, s.port.carrying ≠ none ∨ s.port.waiting = [] → exec .queuedCommandStart s = .next s) ∧
  (∀ (i : Instr) (n : Nat) (s : State), s.portIsFree → commandLength i = some n →
    (lengthByte i).toNat ≠ n → exec i s = .next (answered s .badLength .nothing)) ∧
  (∀ (i : Instr) (n : Nat) (b : Byte) (s : State), s.portIsFree → commandLength i = some n →
    (lengthByte i).toNat = n → containerByte i = some b → 32 ≤ b.toNat →
    exec i s = .next (answered s .notFound .nothing))

/-- O7. The commands that answer and change nothing: No-Op and the reads (section 10.6, sections 1.1 and 10.6),
and an unknown code. Read Denial Counters clears what it is asked to, after reading (section 4.5). -/
def Obligations.PlainCommandsAnswer : Prop :=
  ∀ s : State, s.portIsFree →
    exec (.noOp 0) s = .next (answered s .ok .nothing) ∧
    (∀ len code : Byte, 36 ≤ code.toNat →
      exec (.unknownCommand len code) s = .next (answered s .badCommand .nothing)) ∧
    exec (.readDistrictSettings 0) s = .next (answered s .ok (.settings s.settings)) ∧
    (∀ c : Box, exec (.readContainerConfig 1 (byteOf c)) s = .next (answered s .ok
      (.configStarted (s.bay c).record.config (s.bay c).record.started))) ∧
    (∀ c : Box,
      let b := s.bay c
      let k := b.record.config
      let full := if b.est.mode = .doubtful then max b.est.fill (b.est.mLast.getD 0) else b.est.fill
      exec (.readContainerStatus 1 (byteOf c)) s = .next (answered s .ok (.containerStatus
        { opState := opState b, started := b.record.started, fault := b.record.fault, tally := b.record.tally,
          lost := b.column.lost, consecutive := b.column.consecutive, total := b.column.total,
          lastHatch := b.column.last.map LastUplink.hatch, lastLevel := b.column.last.bind LastUplink.level,
          phase := b.hatch.cycle.map Cycle.phase, card := b.hatch.cycle.map Cycle.card,
          demand := b.hatch.demand, stray := b.hatch.stray, baseline := b.hatch.baseline,
          est := b.est, windowCount := b.est.window.length, effFill := full,
          effPercent := full * 100 / k.capacity, tOrderL := k.tOrder * k.capacity / 100,
          tCloseL := k.tClose * k.capacity / 100, tReopenL := k.tReopen * k.capacity / 100,
          hold := b.hold, order := (s.orders.find? fun o => o.container == c).map Order.number }))) ∧
    (∀ r : Byte, exec (.readDenialCounters 1 r) s = .next (answered
      { s with
        denials := if r.getLsbD 0 = true then Vector.replicate 11 0 else s.denials
        sighting := if r.getLsbD 1 = true then none else s.sighting } .ok (.denials s.denials s.sighting)))

/-- O8. Write District Settings (section 10.6; R18, R19, R86, R87 give the values): a rollover or curfew minute
out of range refuses it whole; otherwise every value is stored, brought to its range, and the cards of every
lowered plan are cut to it. -/
def Obligations.DistrictSettingsAreStoredWhole : Prop :=
  ∀ (s : State) (p : DistrictParams), s.portIsFree →
    let bad := 10079 < p.rollover.toNat ∨
      ∃ i : Fin 5, 1439 < (p.curfew[i]).start.toNat ∨ 1439 < (p.curfew[i]).stop.toNat
    let within := (5 ≤ p.period.toNat ∧ p.period.toNat ≤ 60) ∧ (∀ i : Fin 16, (p.plans[i]).toNat ≤ 250) ∧
      (2 ≤ p.nLost.toNat ∧ p.nLost.toNat ≤ 15) ∧ (30 ≤ p.tInact.toNat ∧ p.tInact.toNat ≤ 600) ∧
      (2 ≤ p.tOw.toNat ∧ p.tOw.toNat ≤ 30) ∧ (10 ≤ p.tDep.toNat ∧ p.tDep.toNat ≤ 120) ∧
      (2 ≤ p.tCl.toNat ∧ p.tCl.toNat ≤ 30) ∧ (5 ≤ p.tQ.toNat ∧ p.tQ.toNat ≤ 120) ∧
      (10 ≤ p.tDock.toNat ∧ p.tDock.toNat ≤ 600)
    (bad → exec (.writeDistrictSettings 48 p) s = .next (answered s .badCommand (.settings s.settings))) ∧
    (¬ bad → ∃ t, exec (.writeDistrictSettings 48 p) s = .next t ∧
      t = answered { s with settings := t.settings, cards := t.cards }
        (if within then .ok else .okClamped) (.settings s.settings) ∧
      t.settings.period = max 5 (min 60 p.period.toNat) ∧ t.settings.rollover = p.rollover.toNat ∧
      (∀ i : Fin 5, t.settings.curfew[i] = ⟨(p.curfew[i]).start.toNat, (p.curfew[i]).stop.toNat⟩) ∧
      (∀ i : Fin 16, t.settings.plans[i] = min 250 (p.plans[i]).toNat) ∧
      t.settings.nLost = max 2 (min 15 p.nLost.toNat) ∧ t.settings.tInact = max 30 (min 600 p.tInact.toNat) ∧
      t.settings.tOw = max 2 (min 30 p.tOw.toNat) ∧ t.settings.tDep = max 10 (min 120 p.tDep.toNat) ∧
      t.settings.tCl = max 2 (min 30 p.tCl.toNat) ∧ t.settings.tQ = max 5 (min 120 p.tQ.toNat) ∧
      t.settings.tDock = max 10 (min 600 p.tDock.toNat) ∧
      t.cards = s.cards.map fun k =>
        if t.settings.plans[k.plan] < s.settings.plans[k.plan] then
          { k with remaining := min k.remaining t.settings.plans[k.plan] } else k)

/-! ## The clock -/

/-- O9. Set Clock, Read Clock (R16) and Trigger Rollover: what each answers and changes, and that the
clock-set flag, once set, is cleared by no event but a power-on reset. -/
def Obligations.ClockCommandsSetAndRead : Prop :=
  (∀ s : State, s.portIsFree →
    (∀ minute week : Half, 10079 < minute.toNat →
      exec (.setClock 4 minute week) s = .next (answered s .badCommand .nothing)) ∧
    (∀ minute week : Half, minute.toNat ≤ 10079 →
      exec (.setClock 4 minute week) s = .next (answered
        { s with clock := { subMinute := 0, minute := minute.toNat, week := week.toNat, set := true } }
        .ok .nothing)) ∧
    exec (.readClock 0) s = .next (answered s .ok (.clock s.clock.minute s.clock.week s.clock.set)) ∧
    exec (.triggerRollover 0) s = .next (answered
      { s with cards := s.cards.map fun k => { k with remaining := s.settings.plans[k.plan] } }
      .ok .nothing)) ∧
  (∀ (i : Instr) (s t : State), i ≠ .powerOnReset → s.clock.set = true → exec i s = .next t →
    t.clock.set = true) ∧
  (∀ s : State, ∃ t, exec .powerOnReset s = .next t ∧ t.clock.set = false)

/-- O10. A minute tick (section 1.5): the clock one minute on, a period tick that corrects every started
container and no other, one after another in ascending number, each evaluated before the next (`ticked`, sections
6.4 and 7.2), EstimateBlind where an estimate enters Blind (R131), a rollover that renews every allowance. The
correction of one record is O21's, the evaluation O22's. The sub-minute count is not advanced between ticks (log
entry 7). -/
def Obligations.MinuteTickMovesTheClock : Prop :=
  ∀ s : State, ∃ t, exec .minuteTick s = .next t ∧
    t = { s with clock := t.clock, bays := t.bays, cards := t.cards, orders := t.orders,
                 orderCounter := t.orderCounter,
                 port := { s.port with items := t.port.items, line := t.port.line } } ∧
    t.clock = (if s.clock.minute < 10079
      then { s.clock with subMinute := 0, minute := s.clock.minute + 1 }
      else { s.clock with subMinute := 0, minute := 0, week := (s.clock.week + 1) % 65536 }) ∧
    t.cards = (if s.clock.set = true ∧ t.clock.minute = s.settings.rollover
      then s.cards.map fun k => { k with remaining := s.settings.plans[k.plan] } else s.cards) ∧
    (s.clock.set = true ∧ t.clock.minute % s.settings.period = 0 →
      (let ticked (v : State) (c : Box) : State :=
        let b := v.bay c
        let e := correctRecord b.record.config
          (decide (v.bus.state = .active ∨ v.bus.state = .woken) && !b.hold.requested) b.est
        let w := v.modBay c fun b => { b with est := e }
        evaluate c (if e.mode = .blind ∧ b.est.mode ≠ .blind then raise .estimateBlind w else w)
      { t with cards := s.cards } =
        (((List.finRange 32).filter fun c : Box => (s.bay c).record.started).foldl ticked
          { s with clock := t.clock })) ∧
      ∀ c : Box, t.bay c =
        (if (s.bay c).record.started = true
          then { s.bay c with est :=
            { correctRecord (s.bay c).record.config
                (decide (s.bus.state = .active ∨ s.bus.state = .woken) && !(s.bay c).hold.requested)
                (s.bay c).est with closeFlag := (t.bay c).est.closeFlag } }
          else s.bay c)) ∧
    (∀ i : Fin 10, t.port.items.getLsbD i = (s.port.items.getLsbD i ||
      decide (i = 3 ∧ ∃ c : Box, (s.bay c).est.mode ≠ .blind ∧ (t.bay c).est.mode = .blind))) ∧
    (¬ (s.clock.set = true ∧ t.clock.minute % s.settings.period = 0) →
      t.bays = s.bays ∧ t.orders = s.orders ∧ t.orderCounter = s.orderCounter ∧ t.port = s.port)

/-! ## Containers -/

/-- O11. Write Container Config (section 1.1): its checks in order, the values as they are stored, and its
answer; the response carries the values held before. The codes of the fractions are those of section 10.8. What
storing them does is O12's. -/
def Obligations.ConfigWritesAreChecked : Prop :=
  (∀ b : Byte, fractionOf b =
    match b.toNat with
    | 0 => some .residual
    | 1 => some .paper
    | 2 => some .packaging
    | 3 => some .glass
    | 4 => some .organic
    | _ => none) ∧
  (∀ f : Fraction, fractionOf (BitVec.ofNat 8 (fractionCode f).val) = some f) ∧
  ∀ (s : State) (c : Box) (p : ContainerParams), s.portIsFree →
    let old := (s.bay c).record.config
    (fractionOf p.fraction = none ∨ 7 < p.cluster.toNat →
      exec (.writeContainerConfig 24 (byteOf c) p) s = .next (answered s .badCommand (.config old))) ∧
    (∀ f : Fraction, fractionOf p.fraction = some f → p.cluster.toNat ≤ 7 →
      let close := max 20 (min 125 p.tClose.toNat)
      let doubt := max 1 (min 15 p.fDoubt.toNat)
      let carried : ContainerConfig :=
        { present := p.present != 0#8, fraction := f, cluster := p.cluster.toNat,
          capacity := p.capacity.toNat, depth := p.depth.toNat, drum := p.drum.toNat,
          charge := p.charge.toNat, tOrder := p.tOrder.toNat, tClose := p.tClose.toNat,
          tReopen := p.tReopen.toNat, omax := p.omax.toNat, kmax := p.kmax.toNat, vmin := p.vmin.toNat,
          residual := p.residual.toNat, fDoubt := p.fDoubt.toNat, fBlind := p.fBlind.toNat,
          rClean := p.rClean.toNat, sBlind := p.sBlind.toNat }
      let new : ContainerConfig :=
        { present := p.present != 0#8, fraction := f, cluster := p.cluster.toNat,
          capacity := max 500 (min 5000 p.capacity.toNat), depth := max 500 (min 4000 p.depth.toNat),
          drum := max 10 (min 250 p.drum.toNat), charge := min 4 p.charge.toNat,
          tOrder := max 10 (min 120 p.tOrder.toNat), tClose := close,
          tReopen := min (min 124 p.tReopen.toNat) (close - 1), omax := max 10 (min 1000 p.omax.toNat),
          kmax := max 1 (min 64 p.kmax.toNat), vmin := max 20 (min 2000 p.vmin.toNat),
          residual := min 300 p.residual.toNat, fDoubt := doubt,
          fBlind := max doubt (max 1 (min 15 p.fBlind.toNat)), rClean := max 1 (min 31 p.rClean.toNat),
          sBlind := max 2 (min 64 p.sBlind.toNat) }
      let same := old.present = new.present ∧ old.fraction = new.fraction ∧ old.cluster = new.cluster ∧
        old.capacity = new.capacity ∧ old.depth = new.depth ∧ old.drum = new.drum ∧ old.charge = new.charge
      ((s.bay c).record.started = true ∧ ¬ same →
        exec (.writeContainerConfig 24 (byteOf c) p) s = .next (answered s .state (.config old))) ∧
      ((s.bay c).record.started = false ∨ same →
        exec (.writeContainerConfig 24 (byteOf c) p) s = .next (answered (storeConfig c new s)
          (if new = carried then .ok else .okClamped) (.config old))))

/-- O12. What a stored configuration does to the other blocks (sections 1.1, 2.1 and 2.2): `u` holds every effect
but the evaluation, which follows where C, H or a threshold changed (O22). That a slot of a column no longer
present becomes padding, the slot in progress included, is log entry 12. -/
def Obligations.ConfigWriteEffects : Prop :=
  ∀ (s : State) (c : Box) (new : ContainerConfig),
    let b := s.bay c
    let old := b.record.config
    let same := old.present = new.present ∧ old.fraction = new.fraction ∧ old.cluster = new.cluster ∧
      old.capacity = new.capacity ∧ old.depth = new.depth ∧ old.drum = new.drum ∧ old.charge = new.charge
    let geometry := ¬ (old.capacity = new.capacity ∧ old.depth = new.depth)
    let thresholds := ¬ (old.tOrder = new.tOrder ∧ old.tClose = new.tClose ∧ old.tReopen = new.tReopen)
    let appears := old.present = false ∧ new.present = true
    let leaves := old.present = true ∧ new.present = false
    let u : State := { s with
      bays := s.bays.set c
        { record := { b.record with
            config := new, tally := if same then b.record.tally else 0
            fault := if leaves then .none else b.record.fault }
          column :=
            if appears then { b.column with consecutive := 0, total := 0, last := none }
            else if leaves then { b.column with lost := false, answer := none }
            else b.column
          hatch :=
            if appears then { b.hatch with stray := 0, baseline := none }
            else if leaves then { b.hatch with demand := none, baseline := none }
            else b.hatch
          display := if leaves then none else b.display
          est :=
            if geometry then
              { b.est with
                mPrev := none, mLast := none, volume := 0, window := []
                fill := min (5 * new.capacity / 4) b.est.fill }
            else b.est
          hold := b.hold }
      bus := { s.bus with slots :=
        if leaves then s.bus.slots.map (fun x => if x = some c then none else x) else s.bus.slots } }
    storeConfig c new s = if geometry ∨ thresholds then evaluate c u else u

/-- O13. Start and Retire (section 1.2): when each is taken, what it changes, and STATE otherwise. A started
container's fill is evaluated at once (O22); a retired container's order finishes as Aborted (O25). -/
def Obligations.StartAndRetireAreTaken : Prop :=
  ∀ (s : State) (c : Box), s.portIsFree →
    ((s.bay c).record.started = false ∧ (s.bay c).record.config.present = true →
      exec (.start 1 (byteOf c)) s = .next (answered
        (evaluate c (s.modBay c fun b => { b with record := { b.record with started := true } }))
        .ok .nothing)) ∧
    (¬ ((s.bay c).record.started = false ∧ (s.bay c).record.config.present = true) →
      exec (.start 1 (byteOf c)) s = .next (answered s .state .nothing)) ∧
    ((s.bay c).record.started = false ∨ (s.bay c).hold.service = true ∨ (s.bay c).hold.emptying ≠ none ∨
        (s.bay c).hatch.cycle ≠ none →
      exec (.retire 1 (byteOf c)) s = .next (answered s .state .nothing)) ∧
    ((s.bay c).record.started = true ∧ (s.bay c).hold.service = false ∧ (s.bay c).hold.emptying = none ∧
        (s.bay c).hatch.cycle = none →
      let u := s.modBay c fun b =>
        { b with record := { b.record with started := false }, est := { b.est with window := [] } }
      exec (.retire 1 (byteOf c)) s = .next (answered (finishOrder c .aborted none none u) .ok .nothing))

/-! ## Cards -/

/-- O14. Insert Card (section 4.1): its checks in order, and the record it adds, at the place its number takes,
with the allowance its plan gives. That the records of the list stand in the first places of the record storage, and
how the places used are counted, is log entry 35; a place not used since the power-on reset stays zeros
(section 4.6). -/
def Obligations.InsertCardAddsInOrder : Prop :=
  (∀ (s : State) (place : Fin 4096),
    (∀ k : CardRecord, s.cards[place.val]? = some k → storedAt s place = .holds k) ∧
    (s.cards.length ≤ place → s.cardStorage.used ≤ place → storedAt s place = .zeros)) ∧
  ∀ (s : State) (card : Quad) (p : CardParams), s.portIsFree →
    let bad := card = 0#32 ∨ card = 0xFFFFFFFF#32 ∨ 2 < p.status.toNat ∨ 15 < p.plan.toNat ∨
      32 ≤ p.fractions.toNat
    let present := ∃ k ∈ s.cards, k.number = card.toNat
    (bad → exec (.insertCard 10 card p) s = .next (answered s .badCommand .nothing)) ∧
    (¬ bad → present → exec (.insertCard 10 card p) s = .next (answered s .duplicate .nothing)) ∧
    (¬ bad → ¬ present → 4096 ≤ s.cards.length →
      exec (.insertCard 10 card p) s = .next (answered s .full .nothing)) ∧
    (¬ bad → ¬ present → s.cards.length < 4096 →
      ∃ t, exec (.insertCard 10 card p) s = .next t ∧
        t = answered { s with
          cards := t.cards
          cardStorage := { s.cardStorage with used := max s.cardStorage.used (s.cards.length + 1) } } .ok .nothing ∧
        (s.cardsOrdered → t.cardsOrdered) ∧
        ∃ k : CardRecord, t.cards.Perm (k :: s.cards) ∧
          k = { number := card.toNat, household := p.household.toNat, status := k.status, plan := k.plan,
                clusters := p.clusters, fractions := p.fractions, remaining := s.settings.plans[k.plan] } ∧
          k.plan.val = p.plan.toNat ∧
          (k.status = .active ↔ p.status.toNat = 0) ∧ (k.status = .suspended ↔ p.status.toNat = 1) ∧
          (k.status = .lost ↔ p.status.toNat = 2))

/-- O15. Update Card and Remove Card (section 4.1): their checks in order, the record as it then stands, and the
record before the command in the response. The count of removals, from which the places left in the record storage are
read, is log entry 35. The premise is the order of the card list, which O53 states. -/
def Obligations.CardsAreUpdatedAndRemoved : Prop :=
  ∀ (s : State) (card : Quad) (p : CardParams), s.portIsFree → s.cardsOrdered →
    let noNumber := card = 0#32 ∨ card = 0xFFFFFFFF#32
    let bad := noNumber ∨ 2 < p.status.toNat ∨ 15 < p.plan.toNat ∨ 32 ≤ p.fractions.toNat
    let found := s.cards.find? fun k => k.number == card.toNat
    (bad → exec (.updateCard 10 card p) s = .next (answered s .badCommand .nothing)) ∧
    (¬ bad → found = none → exec (.updateCard 10 card p) s = .next (answered s .notFound .nothing)) ∧
    (∀ old : CardRecord, ¬ bad → found = some old →
      ∃ k : CardRecord,
        exec (.updateCard 10 card p) s = .next (answered
          { s with cards := s.cards.map fun x => if x.number = card.toNat then k else x }
          .ok (.cardRecord old)) ∧
          k = { number := card.toNat, household := p.household.toNat, status := k.status, plan := k.plan,
                clusters := p.clusters, fractions := p.fractions,
                remaining := min old.remaining s.settings.plans[k.plan] } ∧
          k.plan.val = p.plan.toNat ∧
          (k.status = .active ↔ p.status.toNat = 0) ∧ (k.status = .suspended ↔ p.status.toNat = 1) ∧
          (k.status = .lost ↔ p.status.toNat = 2)) ∧
    (noNumber → exec (.removeCard 4 card) s = .next (answered s .badCommand .nothing)) ∧
    (¬ noNumber → found = none → exec (.removeCard 4 card) s = .next (answered s .notFound .nothing)) ∧
    (∀ old : CardRecord, ¬ noNumber → found = some old →
      exec (.removeCard 4 card) s = .next (answered
        { s with
          cards := s.cards.filter fun k => decide (k.number ≠ card.toNat)
          cardStorage := { s.cardStorage with removals := s.cardStorage.removals + 1 } } .ok (.cardRecord old)))

/-- O16. Read Card (R68): in mode Exact the record of the number, in mode Next the record with the least number
above it; the count goes with every answer but BAD_COMMAND (log entry 20). The premise is the order of the
card list, which O53 states. -/
def Obligations.ReadCardFindsTheRecord : Prop :=
  ∀ (s : State) (card : Quad) (mode : Byte), s.portIsFree → s.cardsOrdered →
    (2 ≤ mode.toNat → exec (.readCard 5 card mode) s = .next (answered s .badCommand .nothing)) ∧
    (∀ k ∈ s.cards, k.number = card.toNat →
      exec (.readCard 5 card 0#8) s = .next (answered s .ok
        (.cardRead (some (k, decide (k.number ∈ s.openCards))) s.cards.length))) ∧
    ((∀ k ∈ s.cards, k.number ≠ card.toNat) ∨ card = 0#32 ∨ card = 0xFFFFFFFF#32 →
      exec (.readCard 5 card 0#8) s = .next (answered s .notFound (.cardRead none s.cards.length))) ∧
    (∀ k ∈ s.cards, card.toNat < k.number → (∀ x ∈ s.cards, card.toNat < x.number → k.number ≤ x.number) →
      exec (.readCard 5 card 1#8) s = .next (answered s .ok
        (.cardRead (some (k, decide (k.number ∈ s.openCards))) s.cards.length))) ∧
    ((∀ k ∈ s.cards, k.number ≤ card.toNat) →
      exec (.readCard 5 card 1#8) s = .next (answered s .notFound (.cardRead none s.cards.length)))

/-- O17. Peek Log, Release Log and Read History (R98, R99, R164): how many records each returns or removes, from
the front, and nothing else changes. The bytes of a record and of an entry are O5's. -/
def Obligations.LogAndHistoryReads : Prop :=
  ∀ (s : State) (n : Byte), s.portIsFree →
    exec (.peekLog 1 n) s = .next (answered s (if 16 < n.toNat then .okClamped else .ok)
      (.logPeek (s.log.take (min n.toNat 16)) s.log.length s.reserved
        (s.log.head?.map LogRecord.sequence))) ∧
    (let count := min n.toNat s.log.length
     exec (.releaseLog 1 n) s = .next (answered { s with log := s.log.drop count }
      (if s.log.length < n.toNat then .okClamped else .ok) (.logReleased count (s.log.length - count)))) ∧
    (let count := min (min n.toNat 8) s.history.length
     exec (.readHistory 1 n) s = .next (answered
      { s with history := s.history.drop count, wrapped := false }
      (if 8 < n.toNat then .okClamped else .ok)
      (.historyRead (s.history.length - count) s.wrapped (s.history.take count))))

/-! ## Fill estimation -/

/-- O18. Reset Estimate and Adjust Estimate (section 6.6): the record set outright and evaluated (O22), the
adjustment stored, each with what it replaced. -/
def Obligations.EstimateCommandsSetRecords : Prop :=
  ∀ (s : State) (c : Box) (v : Half), s.portIsFree →
    let e := (s.bay c).est
    let top := 5 * (s.bay c).record.config.capacity / 4
    exec (.resetEstimate 3 (byteOf c) v) s = .next (answered
      (evaluate c (s.modBay c fun b => { b with est :=
        { b.est with
          fill := min v.toNat top, rem := 0, mPrev := none, mLast := none, volume := 0, window := [],
          fails := 0, clean := 0, silent := 0, adjust := 0, mode := .tracking } }))
      (if top < v.toNat then .okClamped else .ok) (.estimate e.fill e.bulk e.mode)) ∧
    exec (.adjustEstimate 3 (byteOf c) v) s = .next (answered
      (s.modBay c fun b => { b with est := { b.est with adjust := max (-1000) (min 1000 v.toInt) } })
      (if v.toInt < -1000 ∨ 1000 < v.toInt then .okClamped else .ok) (.adjustment e.adjust))

/-- O19. Deposit volumes (section 6.2): each is added and then evaluated (O22); n of them, below the ceiling,
add the exact product of volume and bulk factor, the fraction left in rem; at the ceiling E stays. -/
def Obligations.DepositVolumesAddExactly : Prop :=
  (∀ (c : Box) (s : State), depositVolume c s =
    evaluate c (s.modBay c fun b => { b with est := addVolume b.record.config b.est })) ∧
  (∀ (k : ContainerConfig) (e : Estimate) (n : Nat), e.rem ≤ 255 → e.volume ≤ 65535 →
    let sum := n * (k.drum * e.bulk) + e.rem
    e.fill ≤ 5 * k.capacity / 4 →
    (addVolume k)^[n] e =
      { e with
        fill := min (5 * k.capacity / 4) (e.fill + sum / 256)
        rem := sum % 256, volume := min 65535 (e.volume + n * k.drum) })

/-- O20. Level readings (section 6.3): when one is dropped, discarded or filed; the window stays in order and
loses its oldest entry when a sixth arrives; the entry that joins stands after those of equal value and is the youngest,
and those that stay keep their order of value and of arrival; the measurement is the lower median of three or
more. That the arrival ranks are 1 to the number of entries again after an entry has left, each one less than before,
is the model's numbering (log entry 31). -/
def Obligations.ReadingsAndMedian : Prop :=
  (∀ (c : Box) (s : State),
    takeLevel c .echoLost s = s ∧
    ∀ h : BitVec 12,
      let b := s.bay c
      let k := b.record.config
      takeLevel c (.height h) s =
        if b.record.started = false ∨ b.hold.service = true ∨ b.hold.emptying ≠ none ∨ b.hatch.cycle ≠ none
        then s
        else s.modBay c fun b => { b with est := { b.est with
          window := fileReading ((min h.toNat k.depth * k.capacity + k.depth / 2) / k.depth)
            b.est.window } }) ∧
  (∀ (m : Nat) (w : List Reading), windowOrdered w →
    windowOrdered (fileReading m w) ∧
    (∃ r ∈ fileReading m w, r.value = m ∧ r.rank = (fileReading m w).length) ∧
    let joins (kept : List Reading) : Prop := ∃ before after, before ++ after = kept ∧
      fileReading m w = before ++ ⟨m, kept.length + 1⟩ :: after ∧
      (∀ x ∈ before, x.value ≤ m) ∧ ∀ x ∈ after, m < x.value
    (w.length < 5 → joins w) ∧
    (w.length = 5 → (∃ r ∈ w, r.rank = 1) ∧ ∀ r ∈ w, r.rank = 1 →
      joins ((w.erase r).map fun x => { x with rank := x.rank - 1 }))) ∧
  (∀ w : List Reading, w.Pairwise (fun a b => a.value ≤ b.value) →
    (w.length < 3 → measurement w = none) ∧
    (3 ≤ w.length → ∃ m, measurement w = some m ∧ m ∈ w.map Reading.value ∧
      (w.length + 1) / 2 ≤ w.countP (fun r => decide (r.value ≤ m)) ∧
      w.length / 2 + 1 ≤ w.countP (fun r => decide (m ≤ r.value))))

/-- O21. The period correction of one record (section 6.4, R130): every field of the record it leaves, unmeasured
and measured. `e` is the record before, `w` its window. -/
def Obligations.PeriodCorrectionOfARecord : Prop :=
  ∀ (k : ContainerConfig) (counts : Bool) (e : Estimate),
    let top : Int := ((5 * k.capacity / 4 : Nat) : Int)
    let clamped (x : Int) : Nat := (max 0 (min top x)).toNat
    let modeOf (fails clean silent : Nat) : TrustMode :=
      match e.mode with
      | .tracking => if k.fBlind ≤ fails ∨ k.sBlind ≤ silent then .blind
          else if k.fDoubt ≤ fails then .doubtful else .tracking
      | .doubtful => if k.fBlind ≤ fails ∨ k.sBlind ≤ silent then .blind
          else if k.rClean ≤ clean then .tracking else .doubtful
      | .blind => .blind
    (measurement e.window = none →
      let silent := if counts = true then min 64 (e.silent + 1) else e.silent
      correctRecord k counts e =
        { e with
          fill := clamped (e.fill + e.adjust), window := [], silent := silent, adjust := 0
          mode := modeOf e.fails e.clean silent, offsetLimit := false, rateLimit := false
          missingMeasure := true, missingRate := true }) ∧
    (∀ m : Nat, measurement e.window = some m →
      let paired := ∃ p ∈ e.mPrev, p < m ∧ k.vmin ≤ e.volume
      let rise := m - e.mPrev.getD 0
      let step : Int := Int.tdiv (((min 1023 (rise * 256 / e.volume) : Nat) : Int) - (e.bulk : Int)) 4
      let rateLimit := decide (paired ∧ ¬ (-(k.kmax : Int) ≤ step ∧ step ≤ (k.kmax : Int)))
      let near := e.fill ≤ m + k.omax ∧ m ≤ e.fill + k.omax
      let pulled : Nat := if near then m else if e.fill < m then e.fill + k.omax else e.fill - k.omax
      let failure := rateLimit = true ∨ ¬ near
      let fails := if failure then min 15 (e.fails + 1) else 0
      let clean := if failure then 0 else min 31 (e.clean + 1)
      correctRecord k counts e =
        { e with
          fill := clamped (pulled + e.adjust)
          bulk := if paired then
              (max 64 (min 512 ((e.bulk : Int) + max (-(k.kmax : Int)) (min (k.kmax : Int) step)).toNat))
            else e.bulk
          window := [], mPrev := some m, mLast := some m, volume := 0, fails := fails, clean := clean
          silent := 0, mode := modeOf fails clean 0, adjust := 0, offsetLimit := decide (¬ near)
          rateLimit := rateLimit, missingMeasure := false, missingRate := decide (¬ paired) })

/-- O22. The evaluation of a container's effective fill (sections 7.2 to 7.4): the close flag from the thresholds,
then an order request or an escalation, and nothing else. -/
def Obligations.EvaluationSetsFlagAndOrders : Prop :=
  ∀ (c : Box) (s : State),
    let b := s.bay c
    let k := b.record.config
    let full := if b.est.mode = .doubtful then max b.est.fill (b.est.mLast.getD 0) else b.est.fill
    let close := k.tClose * k.capacity / 100
    let reopen := k.tReopen * k.capacity / 100
    let order := k.tOrder * k.capacity / 100
    let flag := if close ≤ full then true else if full < reopen then false else b.est.closeFlag
    let calls := b.record.started = true ∧ (order ≤ full ∨ b.est.mode = .blind)
    let n := assignedNumber s
    let t := evaluate c s
    t = { s with bays := t.bays, orders := t.orders, orderCounter := t.orderCounter } ∧
    (∀ d : Box, t.bay d = if d = c then { b with est := { b.est with closeFlag := flag } } else s.bay d) ∧
    ((∀ o ∈ s.orders, o.container ≠ c) → calls →
      t.orders = s.orders ++
        [{ number := n, container := c, origin := .auto, priority := if flag = true then 3 else 2, label := 0,
           oneShot := false, unverified := decide (b.est.mode = .blind), attempts := 0, state := .pending,
           abortRequested := false, vehicle := none }] ∧
      t.orderCounter = if n < 65535 then n + 1 else 1) ∧
    ((∀ o ∈ s.orders, o.container ≠ c) → ¬ calls →
      t.orders = s.orders ∧ t.orderCounter = s.orderCounter) ∧
    ((∃ o ∈ s.orders, o.container = c) →
      t.orderCounter = s.orderCounter ∧
      t.orders = if flag = true ∧ b.est.closeFlag = false
        then s.orders.map fun o => if o.container = c then { o with priority := max o.priority 3 } else o
        else s.orders)

/-! ## Orders and the history -/

/-- O23. Post Order (section 8.2): refused for a Dormant container and over a Claimed order; otherwise it creates
an order, or merges into the Pending or Offered one. -/
def Obligations.PostOrderCreatesOrMerges : Prop :=
  ∀ (s : State) (c : Box) (priority : Byte) (label : Half) (oneShot : Byte), s.portIsFree →
    let found := s.orders.find? fun o => o.container == c
    let n := assignedNumber s
    let status := if 3 < priority.toNat then Status.okClamped else Status.ok
    (∀ n : Byte, 32 ≤ n.toNat →
      exec (.postOrder 5 n priority label oneShot) s = .next (answered s .notFound .nothing)) ∧
    ((s.bay c).record.started = false →
      exec (.postOrder 5 (byteOf c) priority label oneShot) s = .next (answered s .state .nothing)) ∧
    (∀ o : Order, (s.bay c).record.started = true → found = some o → o.state = .claimed →
      exec (.postOrder 5 (byteOf c) priority label oneShot) s = .next (answered s .state .nothing)) ∧
    ((s.bay c).record.started = true → found = none →
      exec (.postOrder 5 (byteOf c) priority label oneShot) s = .next (answered
        { s with
          orders := s.orders ++
            [{ number := n, container := c, origin := .operations, priority := min 3 priority.toNat,
               label := label.toNat, oneShot := oneShot != 0#8, unverified := false, attempts := 0,
               state := .pending, abortRequested := false, vehicle := none }]
          orderCounter := if n < 65535 then n + 1 else 1 }
        status (.orderPosted n false))) ∧
    (∀ o : Order, (s.bay c).record.started = true → found = some o → o.state ≠ .claimed →
      exec (.postOrder 5 (byteOf c) priority label oneShot) s = .next (answered
        { s with orders := s.orders.map fun x => if x.container = c then
            { x with
              priority := max x.priority (min 3 priority.toNat), label := label.toNat,
              oneShot := oneShot != 0#8, origin := .operations, unverified := false,
              abortRequested := false } else x }
        status (.orderPosted o.number true)))

/-- O24. Abort Order (section 8.5): a number that no order holds; a Pending order finished at once, its mark set; an
Offered or Claimed one marked. The premise is the order list's, which O58 states. -/
def Obligations.AbortOrderFinishesOrMarks : Prop :=
  ∀ (s : State) (number : Half), s.portIsFree → s.ordersFit →
    let found := s.orders.find? fun o => o.number == number.toNat
    (found = none → exec (.abortOrder 2 number) s = .next (answered s .notFound .nothing)) ∧
    (∀ o : Order, found = some o → o.state = .pending →
      exec (.abortOrder 2 number) s = .next (answered
        (appendHistory
          { number := o.number, label := o.label, container := o.container, origin := o.origin,
            outcome := .aborted, mark := true, cause := none, mass := none, vehicle := o.vehicle,
            time := stamp s, attempts := o.attempts }
          { s with orders := s.orders.filter fun x => decide (x.container ≠ o.container) })
        .ok (.orderState .pending))) ∧
    (∀ o : Order, found = some o → o.state ≠ .pending →
      exec (.abortOrder 2 number) s = .next (answered
        { s with orders := s.orders.map fun x =>
            if x.container = o.container then { x with abortRequested := true } else x }
        .ok (.orderState o.state)))

/-- O25. Finishing an order (sections 8.6 and 8.7): it leaves the list and its entry is appended with its fields; a
full history loses its oldest entry and sets Wrapped; HistoryNew is raised at the two events of R163. The time of a
record is the clock's, absent while it is unset. -/
def Obligations.FinishedOrdersEnterHistory : Prop :=
  (∀ s : State, stamp s = if s.clock.set = true then some ⟨s.clock.week, s.clock.minute⟩ else none) ∧
  (∀ (s : State) (c : Box) (outcome : OrderOutcome) (cause : Option FailCause) (mass : Option Nat),
    (∀ o : Order, (s.orders.find? fun o => o.container == c) = some o →
      finishOrder c outcome cause mass s = appendHistory
        { number := o.number, label := o.label, container := c, origin := o.origin, outcome := outcome,
          mark := o.abortRequested, cause := cause, mass := mass, vehicle := o.vehicle,
          time := if s.clock.set = true then some ⟨s.clock.week, s.clock.minute⟩ else none,
          attempts := o.attempts }
        { s with orders := s.orders.filter fun x => decide (x.container ≠ c) }) ∧
    ((∀ o ∈ s.orders, o.container ≠ c) → finishOrder c outcome cause mass s = s)) ∧
  (∀ (e : HistoryEntry) (s : State),
    let t := appendHistory e s
    let wraps := 64 ≤ s.history.length
    t = { s with history := t.history, wrapped := t.wrapped, port := t.port } ∧
    t.history = (if wraps then s.history.tail else s.history) ++ [e] ∧
    t.wrapped = (decide wraps || s.wrapped) ∧
    (s.history = [] ∨ (wraps ∧ s.wrapped = false) → t.port = (raise .historyNew s).port) ∧
    (s.history ≠ [] ∧ (¬ wraps ∨ s.wrapped = true) → t.port = s.port))

/-- O26. The rank order of the list (section 8.1): by priority, highest first, and within one priority oldest first;
Read Orders returns up to eight orders of it (R165); the number a new order takes is held by no active order. The
creation position is the place in the list (log entry 25). The premises are ranges: the counter's O51 states, the
others follow from O58. -/
def Obligations.RankedOrders : Prop :=
  (∀ l : List Order, (∀ o ∈ l, o.priority ≤ 3) →
    (ranked l).Perm l ∧ (ranked l).Pairwise (fun a b => b.priority ≤ a.priority) ∧
    ∀ p : Nat, (ranked l).filter (fun o => o.priority == p) = l.filter (fun o => o.priority == p)) ∧
  (∀ (s : State) (first : Byte), s.portIsFree →
    exec (.readOrders 1 first) s = .next (answered s .ok (.orderList s.orders.length s.orderCounter
      ((((ranked s.orders).drop first.toNat).take 8).map fun o => (o, s.orders.idxOf o + 1))))) ∧
  (∀ s : State, 1 ≤ s.orderCounter → s.orderCounter ≤ 65535 → s.orders.length ≤ 32 →
    (∀ o ∈ s.orders, o.number ≠ assignedNumber s) ∧ 1 ≤ assignedNumber s ∧ assignedNumber s ≤ 65535 ∧
    ((∀ o ∈ s.orders, o.number ≠ s.orderCounter) → assignedNumber s = s.orderCounter))

/-! ## Holds and faults -/

/-- O27. Service Hold On and Service Hold Off (section 9.3). A repeated Service Hold On answers with the hold
state too (log entry 21). -/
def Obligations.ServiceHoldsSetAndClear : Prop :=
  ∀ (s : State) (c : Box), s.portIsFree →
    let h := (s.bay c).hold
    let active := (s.bay c).hatch.cycle ≠ none
    let claim := if active then ClaimState.quiescing else if h.forced = true then .heldForced else .held
    ((s.bay c).record.started = false →
      exec (.serviceHoldOn 1 (byteOf c)) s = .next (answered s .state .nothing)) ∧
    ((s.bay c).record.started = true → h.service = true →
      exec (.serviceHoldOn 1 (byteOf c)) s = .next (answered s .ok (.holdState claim))) ∧
    ((s.bay c).record.started = true → h.service = false →
      exec (.serviceHoldOn 1 (byteOf c)) s = .next (answered
        (s.modBay c fun b => { b with hold :=
          { h with service := true, tQ := if active ∧ h.tQ = none then some s.settings.tQ else h.tQ } })
        .ok (.holdState claim))) ∧
    (h.service = false →
      exec (.serviceHoldOff 1 (byteOf c)) s = .next (answered s .notHeld .nothing)) ∧
    (h.service = true →
      exec (.serviceHoldOff 1 (byteOf c)) s = .next (answered
        (s.modBay c fun b => { b with hold :=
          if h.emptying = none then { h with service := false, tQ := none, forced := false }
          else { h with service := false } })
        .ok .nothing))

/-- O28. Release Orphan (section 9.3, section 8.4): the emptying source goes; a still-Claimed order under the
orphan's id counts an attempt and fails, aborts or returns; an order that left Claimed is untouched. -/
def Obligations.ReleaseOrphanCountsAnAttempt : Prop :=
  ∀ (s : State) (c : Box), s.portIsFree →
    let h := (s.bay c).hold
    let found := s.orders.find? fun o => o.container == c
    let u := s.modBay c fun b => { b with hold :=
      { h with emptying := none, orphan := false, reported := false,
               tQ := if h.service = true then h.tQ else none, forced := h.service && h.forced } }
    let entry (o : Order) (v : Nat) (outcome : OrderOutcome) (cause : Option FailCause) : HistoryEntry :=
      { number := o.number, label := o.label, container := c, origin := o.origin, outcome := outcome,
        mark := o.abortRequested, cause := cause, mass := none, vehicle := some v, time := stamp s,
        attempts := o.attempts + 1 }
    let rest := s.orders.filter fun x => decide (x.container ≠ c)
    (h.emptying = none ∨ h.orphan = false →
      exec (.releaseOrphan 1 (byteOf c)) s = .next (answered s .notHeld .nothing)) ∧
    (∀ v : Nat, h.emptying = some v → h.orphan = true →
      ((∀ o ∈ found, ¬ (o.state = .claimed ∧ o.vehicle = some v)) →
        exec (.releaseOrphan 1 (byteOf c)) s = .next (answered u .ok (.orphan v .untouched))) ∧
      (∀ o : Order, found = some o → o.state = .claimed → o.vehicle = some v →
        (o.oneShot = true ∨ 2 ≤ o.attempts →
          exec (.releaseOrphan 1 (byteOf c)) s = .next (answered
            (appendHistory (entry o v .failed (some .linkLost)) { u with orders := rest })
            .ok (.orphan v .failed))) ∧
        (o.oneShot = false → o.attempts < 2 → o.abortRequested = true →
          exec (.releaseOrphan 1 (byteOf c)) s = .next (answered
            (appendHistory (entry o v .aborted none) { u with orders := rest })
            .ok (.orphan v .aborted))) ∧
        (o.oneShot = false → o.attempts < 2 → o.abortRequested = false →
          exec (.releaseOrphan 1 (byteOf c)) s = .next (answered
            { u with orders := s.orders.map fun x => if x.container = c then
                { x with attempts := x.attempts + 1, state := .pending, vehicle := none } else x }
            .ok (.orphan v .pending)))))

/-- O29. Clear Fault (R186): a None attribute stays, ColumnLost is not cleared by command, HatchJam is cleared
where the column is heard and last reported the hatch Closed. -/
def Obligations.ClearFaultFollowsTheTable : Prop :=
  ∀ (s : State) (c : Box), s.portIsFree →
    let b := s.bay c
    let closed := b.column.lost = false ∧ ∃ u, b.column.last = some u ∧ u.hatch = .closed
    (∀ n : Byte, 32 ≤ n.toNat → exec (.clearFault 1 n) s = .next (answered s .notFound .nothing)) ∧
    (b.record.fault = .none →
      exec (.clearFault 1 (byteOf c)) s = .next (answered s .ok (.fault .none))) ∧
    (b.record.fault = .columnLost →
      exec (.clearFault 1 (byteOf c)) s = .next (answered s .state .nothing)) ∧
    (b.record.fault = .hatchJam → ¬ closed →
      exec (.clearFault 1 (byteOf c)) s = .next (answered s .state .nothing)) ∧
    (b.record.fault = .hatchJam → closed →
      exec (.clearFault 1 (byteOf c)) s = .next (answered
        (s.modBay c fun b => { b with record := { b.record with fault := .none } }) .ok (.fault .hatchJam)))

/-! ## The bus -/

/-- O30. What moves the bus between its states (section 2.4): Bus Quiet, Bus Active, the expiry of T_inact, and the
recovery from Blocked, which an active line holds back. `enterQuiet` and `startCycle` are O31's. The idle measure
of a Blocked bus is not stored: the recovery event stands for its 10 ms (log entry 18). That an expiry of a T_inact
that does not run changes nothing is log entry 6; that a new cycle at once gives up a slot still in progress is
log entry 11. -/
def Obligations.BusMovesBetweenStates : Prop :=
  ∀ s : State,
    let active := ∃ c : Box, (s.bay c).hatch.cycle ≠ none
    let rest := if active then { s with bus := { s.bus with state := .draining, tInact := none } }
      else enterQuiet s
    let resumed := startCycle { s with bus := { s.bus with state := .active, target := none, qualifier := .off } }
    (s.portIsFree →
      exec (.busQuiet 0) s = .next (answered
        (match s.bus.state with
          | .active => rest
          | .woken => rest
          | .draining => s
          | .quiet => s
          | .blocked => { s with bus := { s.bus with target := some .quiet } }) .ok .nothing) ∧
      exec (.busActive 0) s = .next (answered
        (match s.bus.state with
          | .active => s
          | .woken => { s with bus := { s.bus with state := .active, tInact := none } }
          | .draining => { s with bus := { s.bus with state := .active } }
          | .quiet => resumed
          | .blocked => { s with bus := { s.bus with target := some .active } }) .ok .nothing)) ∧
    (s.bus.state = .woken → s.bus.tInact ≠ none → exec .tInactExpiry s = .next rest) ∧
    (¬ (s.bus.state = .woken ∧ s.bus.tInact ≠ none) → exec .tInactExpiry s = .next s) ∧
    (s.bus.state = .blocked → s.bus.level = .idle → s.bus.target = some .active →
      exec .blockedRecovery s = .next resumed) ∧
    (s.bus.state = .blocked → s.bus.level = .idle → s.bus.target = some .quiet →
      exec .blockedRecovery s = .next (enterQuiet s)) ∧
    (¬ (s.bus.state = .blocked ∧ s.bus.level = .idle ∧ s.bus.target ≠ none) →
      exec .blockedRecovery s = .next s)

/-- O31. The entry to Quiet, the start of a cycle, and what follows the end of a slot (sections 2.1 and 2.4): every
field each changes. The next slot of the list starts with its downlink and its held T_cl (`opening`, not for a lost
column); after the last a new cycle starts; while polling is stopped no slot follows. A held T_cl takes the
present length (log entry 13); an idle run already Tf old makes the qualifier Ready at once (log entry 16); a
cycle that starts gives up the slots left (log entry 11). -/
def Obligations.QuietEntryAndCycleStart : Prop :=
  let opening (tCl : Nat) (b : Bay) : Bay :=
    let hatch := if b.column.lost = false ∧ b.hatch.demand = some .held
      then { b.hatch with demand := some (.running tCl) } else b.hatch
    let down : Downlink :=
      { command :=
          if hatch.demand ≠ none then .closeHatch
          else if (∃ k ∈ hatch.cycle, k.phase ≠ .deposited) then .openHatch else .keepClosed
        display :=
          match b.column.answer with
          | some a => a.code
          | none =>
            if hatch.cycle ≠ none then .granted
            else match b.display with
              | some r => .denied r
              | none =>
                if opState b = .dormant ∨ opState b = .held ∨ opState b = .inFault then .outOfService
                else .idle
        tag := b.column.answer.map Answer.card }
    { b with hatch := hatch, column := { b.column with downlink := some down } }
  (∀ s : State,
    let t := enterQuiet s
    t = { s with
      bays := t.bays
      bus := { s.bus with
        state := .quiet, target := none, tInact := none, firstWake := false
        qualifier := if s.bus.level = .idle ∧ s.bus.heldTf = true then .ready else .recovering
        slots := s.bus.slots.take 1 } } ∧
    ∀ c : Box, t.bay c =
      { s.bay c with
        hatch := { (s.bay c).hatch with demand := (s.bay c).hatch.demand.map fun d =>
          match d with
          | .running _ => .held
          | .held => .held
          | .spent => .spent }
        column := { (s.bay c).column with answer := none }
        display := none }) ∧
  (∀ s : State,
    let t := startCycle s
    let present := (List.finRange 32).filter fun c : Box => (s.bay c).record.config.present
    t = { s with
      bays := t.bays
      bus := { s.bus with
        counter := (s.bus.counter + 1) % 64
        slots := present.map some ++ List.replicate (8 - present.length) none } } ∧
    ∀ c : Box, t.bay c =
      if present.head? = some c then opening s.settings.tCl (s.bay c) else s.bay c) ∧
  (∀ s : State,
    let polling := s.bus.state = .active ∨ s.bus.state = .woken ∨ s.bus.state = .draining
    (¬ polling → nextSlot s = { s with bus := { s.bus with slots := [] } }) ∧
    (polling → s.bus.slots.length ≤ 1 → nextSlot s = startCycle s) ∧
    (∀ (ended next : Option Box) (rest : List (Option Box)), polling → s.bus.slots = ended :: next :: rest →
      let t := nextSlot s
      t = { s with bays := t.bays, bus := { s.bus with slots := next :: rest } } ∧
      ∀ c : Box, t.bay c = if next = some c then opening s.settings.tCl (s.bay c) else s.bay c))

/-- O32. Read and Clear Bus Flags (R34), Read and Clear Attention (R196), Mask Attention (R197). Read Attention
returns the level of the line, low exactly in Asserted. The line follows as O33 states. The bit of each sticky flag is
that of section 10.8, and to set a flag is to set its bit. The premise is the bus invariant that O57 states. -/
def Obligations.FlagAndAttentionCommands : Prop :=
  (∀ f : BusFlag, busFlagBit f =
    match f with
    | .validSeen => 0
    | .garbledSeen => 1
    | .silentSeen => 2
    | .overrunSeen => 3
    | .wakeSeen => 4
    | .stuckSeen => 5) ∧
  (∀ (f : BusFlag) (s : State),
    let t := setBusFlag f s
    t = { s with bus := { s.bus with flags := t.bus.flags } } ∧
    ∀ j : Fin 6, t.bus.flags.getLsbD j = (s.bus.flags.getLsbD j || decide (j.val = busFlagBit f))) ∧
  ∀ s : State, s.portIsFree → s.bus.modesAgree →
    exec (.readBusFlags 0) s = .next (answered s .ok
      (.busFlags s.bus.state (if s.bus.state = .blocked then s.bus.target else none) s.bus.counter
        s.bus.flags)) ∧
    (∀ requests : Byte, ∃ t, exec (.clearBusFlags 1 requests) s = .next t ∧
      t = answered { s with bus := { s.bus with flags := t.bus.flags } } .ok (.flags s.bus.flags) ∧
      (∀ i : Fin 6, t.bus.flags.getLsbD i = (s.bus.flags.getLsbD i && !requests.getLsbD i)) ∧
      ∀ f : BusFlag, ((setBusFlag f t).bus.flags).getLsbD (busFlagBit f) = true) ∧
    exec (.readAttention 0) s = .next (answered s .ok
      (.attention s.port.items s.port.mask (if s.port.line = .asserted then .low else .high))) ∧
    (∀ requests : Half, ∃ t, exec (.clearAttention 2 requests) s = .next t ∧
      t = answered { s with port := followLine { s.port with items := t.port.items } } .ok
        (.items s.port.items) ∧
      (∀ i : Fin 10, t.port.items.getLsbD i = (s.port.items.getLsbD i && !requests.getLsbD i)) ∧
      ∀ i : Item, ((raise i t).port.items).getLsbD (itemBit i) = true) ∧
    (∀ enables : Half, ∃ t, exec (.maskAttention 2 enables) s = .next t ∧
      t = answered { s with port := followLine { s.port with mask := t.port.mask } } .ok
        (.mask s.port.mask) ∧
      ∀ i : Fin 10, t.port.mask.getLsbD i = enables.getLsbD i)

/-- O33. The attention line (section 10.4): low exactly in Asserted, it follows the condition, waits in Holding for
the deassert timer, and no step leaves it Asserted without the condition or Released with it; to raise an item is
to set its bit of section 10.8. That an expiry of the deassert timer outside Holding, where it is stopped, changes nothing is log
entry 6. -/
def Obligations.AttentionLineFollows : Prop :=
  (∀ i : Item, itemBit i =
    match i with
    | .powerOn => 0
    | .logHigh => 1
    | .containerFault => 2
    | .estimateBlind => 3
    | .wake => 4
    | .dock => 5
    | .undock => 6
    | .historyNew => 7
    | .lineStuck => 8
    | .lostCardSeen => 9) ∧
  (∀ line : AttentionLine, lineLevel line = .low ↔ line = .asserted) ∧
  (∀ p : Port,
    let c := ∃ i : Fin 10, p.items.getLsbD i = true ∧ p.mask.getLsbD i = true
    (followLine p).line =
      match p.line with
      | .released => if c then .asserted else .released
      | .asserted => if c then .asserted else .holding
      | .holding => .holding) ∧
  (∀ (i : Item) (s : State),
    let t := raise i s
    t = { s with port := followLine { s.port with items := t.port.items } } ∧
    ∀ j : Fin 10, t.port.items.getLsbD j = (s.port.items.getLsbD j || decide (j.val = itemBit i))) ∧
  (∀ s : State,
    (s.port.line = .holding → exec .deassertTimerExpiry s = .next { s with port := { s.port with
      line := if ∃ i : Fin 10, s.port.items.getLsbD i = true ∧ s.port.mask.getLsbD i = true
        then .asserted else .released } }) ∧
    (s.port.line ≠ .holding → exec .deassertTimerExpiry s = .next s)) ∧
  (∀ s t : State, s.port.lineAgrees → step s = .next t → t.port.lineAgrees)

/-- O34. Service Reset (sections 10.5, 1.7, 2.5, 3.6, 4.6, 5.6, 6.7, 8.8 and 9.6): what every record holds after it:
the refunds, the Cut records and the sequence, the history, the items but LogHigh and HistoryNew as they were, the
line following, a new cycle with its first downlink, the containers. The order of the Cut records is free (log
entry 8); that the new cycle's slot list replaces a slot still in progress, which is given up without an outcome, is
log entry 11; a denial display still shows in that one downlink (log entry 24), unless the cycles' ends took a
Draining bus through Quiet. The premises are the agreements that O54, O58 and O33 state. -/
def Obligations.ServiceResetClearsTheDistrict : Prop :=
  ∀ s : State, s.portIsFree → s.cyclesAgree → s.ordersFit → s.port.lineAgrees →
    let cycles := s.openCards.length
    let ending := (List.finRange 32).filter fun c : Box => (s.bay c).hatch.cycle.isSome
    let present := (List.finRange 32).filter fun c : Box => (s.bay c).record.config.present
    let wraps := s.orders ≠ [] ∧ 64 < s.history.length + s.orders.length
    ∃ t, exec (.serviceReset 0) s = .next t ∧
      t = answered t .ok (.resetCounts cycles s.orders.length) ∧
      t = { s with
        bays := t.bays, cards := t.cards, openCards := [], log := t.log, reserved := 0
        nextSequence := t.nextSequence, orders := [], history := t.history
        wrapped := s.wrapped || decide wraps
        dock := none, draws := t.draws
        port := { t.port with waiting := s.port.waiting, summary := s.port.summary, mask := s.port.mask }
        bus := { s.bus with
          state := .active, target := none, firstWake := false, qualifier := .off, tInact := none
          stuck := 0, counter := (s.bus.counter + 1) % 64
          slots := present.map some ++ List.replicate (8 - present.length) none } } ∧
      t.cards = (s.cards.map fun x =>
        match ((List.finRange 32).filterMap fun c : Box => (s.bay c).hatch.cycle).find?
            (fun k => k.card == x.number) with
        | some k => { x with remaining := min s.settings.plans[x.plan] (x.remaining + k.charge) }
        | none => x) ∧
      (∃ cut : List LogRecord, t.log = s.log ++ cut ∧ (cut.map LogRecord.container).Perm ending ∧
        (cycles = 0 → t.nextSequence = s.nextSequence) ∧
        (1 ≤ cycles → t.nextSequence = (s.nextSequence + cycles) % 4294967296) ∧
        ∀ r ∈ cut, r.outcome = .cut ∧ r.applied = 0 ∧
          ∃ k ∈ (s.bay r.container).hatch.cycle, r.card = k.card ∧ r.household = k.household ∧
            r.time = k.time ∧ r.fraction = (s.bay r.container).record.config.fraction ∧
            r.after = (t.cards.find? fun x => x.number == k.card).map CardRecord.remaining) ∧
      t.history = (s.history ++ (ranked s.orders).map fun o : Order =>
        ({ number := o.number, label := o.label, container := o.container, origin := o.origin
           outcome := .reset, mark := o.abortRequested, cause := none, mass := none, vehicle := o.vehicle
           time := stamp s, attempts := o.attempts } : HistoryEntry)).drop
        (s.history.length + s.orders.length - max 64 s.history.length) ∧
      (∀ i : Fin 10, t.port.items.getLsbD i = (s.port.items.getLsbD i ||
        decide (i = 1 ∧ s.log.length < 768 ∧ 768 ≤ s.log.length + cycles ∨
          i = 7 ∧ s.orders ≠ [] ∧ (s.history = [] ∨ s.wrapped = false ∧ wraps)))) ∧
      t.port.line = (followLine { s.port with items := t.port.items }).line ∧
      ∀ c : Box, t.bay c =
        { record := (s.bay c).record
          column := { (s.bay c).column with
            consecutive := 0, total := 0, answer := none
            downlink :=
              if present.head? = some c then
                some { command := if (t.bay c).hatch.demand = none then .keepClosed else .closeHatch
                       display :=
                         match (if s.bus.state = .draining ∧ 1 ≤ cycles then none else (s.bay c).display) with
                         | some r => .denied r
                         | none =>
                           if (s.bay c).record.started = false ∨ (s.bay c).record.fault ≠ .none
                           then .outOfService else .idle
                       tag := none }
              else (s.bay c).column.downlink }
          hatch := { (s.bay c).hatch with
            cycle := none
            tOw := if (s.bay c).hatch.cycle = none then (s.bay c).hatch.tOw else none
            tDep := if (s.bay c).hatch.cycle = none then (s.bay c).hatch.tDep else none
            demand :=
              if (s.bay c).record.config.present = true ∧
                  (s.bay c).column.last.map LastUplink.hatch ≠ some .closed then
                (if (s.bay c).column.lost = true then some .held else some (.running s.settings.tCl))
              else none }
          display := none
          est := { (s.bay c).est with window := [] }
          hold := {} }

/-! ## Slots -/

/-- O35. The end of a slot without a Valid uplink (sections 2.1 and 2.2): a padding slot has no outcome; otherwise
the flag is set, both counts advance, and a column that reaches N_lost is marked lost: its running T_cl held,
ColumnLost requested, its cycle ended Unconfirmed (`endCycle`, which O43 states: the refund, the volume, the record,
T_q), its answer and denial display dropped, and nothing else. The next slot or cycle then starts (`nextSlot`,
which O31 states). -/
def Obligations.NonValidSlotEnds : Prop :=
  (∀ (s : State) (rx : SlotRx),
    (s.bus.slots = [] → exec (.slotEnd rx) s = .next s) ∧
    (∀ rest, s.bus.slots = none :: rest → exec (.slotEnd rx) s = .next (nextSlot s))) ∧
  (∀ (s : State) (c : Box) (rest : List (Option Box)) (rx : SlotRx) (f : BusFlag),
    s.bus.slots = some c :: rest →
    (match rx with
      | .nothing => f = .silentSeen
      | .unfinished => f = .overrunSeen
      | .complete u ok => f = .garbledSeen ∧ (ok = false ∨ u.echo ≠ c)) →
    let b := s.bay c
    let counted := { b.column with
      consecutive := min 15 (b.column.consecutive + 1), total := min 65535 (b.column.total + 1) }
    let u := nonValidSlot c (setBusFlag f s)
    let marked := (setBusFlag f s).modBay c fun b => { b with
      column := { counted with lost := true }
      hatch := { b.hatch with demand := b.hatch.demand.map fun d =>
        match d with
        | .running _ => .held
        | .held => .held
        | .spent => .spent }
      record := { b.record with fault := if b.record.fault = .none then .columnLost else b.record.fault } }
    let requested := if b.record.fault = .none then raise .containerFault marked else marked
    exec (.slotEnd rx) s = .next (nextSlot u) ∧
      (¬ (b.column.lost = false ∧ s.settings.nLost ≤ counted.consecutive) →
        u = (setBusFlag f s).modBay c fun b => { b with column := counted }) ∧
      (b.column.lost = false ∧ s.settings.nLost ≤ counted.consecutive →
        u = (endCycle c .unconfirmed .other requested).modBay c (fun b =>
          { b with column := { b.column with answer := none }, display := none }) ∧
        (u.bay c).column = { counted with lost := true, answer := none } ∧
        (u.bay c).display = none ∧
        (u.bay c).record =
          { b.record with fault := if b.record.fault = .none then .columnLost else b.record.fault } ∧
        (u.bay c).hatch.cycle = none ∧
        (∀ n, (u.bay c).hatch.demand ≠ some (.running n)) ∧
        (u.port.items.getLsbD 2 = (s.port.items.getLsbD 2 || decide (b.record.fault = .none))) ∧
        (b.hatch.cycle = none → u.log = s.log ∧ u.openCards = s.openCards ∧ u.reserved = s.reserved) ∧
        (∀ k, b.hatch.cycle = some k →
          (∃ r, u.log = s.log ++ [r] ∧ r.outcome = .unconfirmed ∧ r.applied = 0 ∧ r.card = k.card ∧
            r.container = c) ∧
          u.openCards = s.openCards.erase k.card ∧ u.reserved = s.reserved - 1 ∧
          (u.bay c).hatch.demand ≠ none)))

/-- O36. The end of a slot with a Valid uplink (section 2.1), step by step: `received` (the count, the return, the
last uplink, the baseline), the drum turns (O37), the hatch report (O38), a held T_cl that a return restarts,
the level (O20), the delivery of the answer with the denial display it starts (section 4.4), and then the
presentation, decided afresh (O40) unless the pending answer is its own. Then the next slot (O31). At a return or
with no baseline no turn counts, and HatchJam stays. That the delivery comes before the presentation is log entry
15; what a return or a presentation does on a bus already Quiet is log entries 14 and 26; the length of the
restarted T_cl is log entry 13. -/
def Obligations.ValidSlotEnds : Prop :=
  ∀ (s : State) (c : Box) (rest : List (Option Box)) (u : Uplink),
    s.bus.slots = some c :: rest → u.echo = c →
    let b := s.bay c
    let received := State.modBay { s with bus := { s.bus with flags := s.bus.flags ||| 1#6 } } c fun b =>
      { b with
        column := { b.column with
          consecutive := 0, lost := false
          last := some ⟨u.hatch, u.drum.toNat, u.card.map BitVec.toNat, u.level⟩ }
        record := { b.record with fault :=
          if b.column.lost = true ∧ b.record.fault = .columnLost then .none else b.record.fault }
        hatch := { b.hatch with baseline := some u.drum.toNat } }
    let reported := hatchReport c u.hatch
      (takeTurns c (turnsOf b.hatch.baseline b.column.lost u.drum.toNat) received)
    let resumed :=
      if b.column.lost = true ∧ reported.bus.state ≠ .quiet ∧ reported.bus.state ≠ .blocked ∧
          (reported.bay c).hatch.demand = some .held
      then reported.modBay c fun b =>
        { b with hatch := { b.hatch with demand := some (.running s.settings.tCl) } }
      else reported
    let filed := match u.level with
      | some l => takeLevel c l resumed
      | none => resumed
    let settled := match (filed.bay c).column.answer with
      | some a =>
        if (∃ d ∈ (filed.bay c).column.downlink, d.tag = some a.card) ∧ u.card.map BitVec.toNat ≠ some a.card
        then filed.modBay c fun b =>
          { b with
            column := { b.column with answer := none }
            display := match a.code with
              | .denied r => some r
              | _ => b.display }
        else filed
      | none => filed
    let v := match u.card with
      | some n =>
        if (settled.bay c).column.answer.map Answer.card = some n.toNat then settled
        else newPresentation c n.toNat settled
      | none => settled
    exec (.slotEnd (.complete u true)) s = .next (nextSlot v) ∧
      v.bus.flags = s.bus.flags ||| 1#6 ∧
      (v.bay c).column.consecutive = 0 ∧ (v.bay c).column.total = b.column.total ∧
      (v.bay c).column.lost = false ∧
      (v.bay c).column.last = some ⟨u.hatch, u.drum.toNat, u.card.map BitVec.toNat, u.level⟩ ∧
      (v.bay c).hatch.baseline = some u.drum.toNat ∧
      (b.column.lost = true ∨ b.hatch.baseline = none →
        (v.bay c).hatch.stray = b.hatch.stray ∧ (v.bay c).est.volume = b.est.volume ∧
        (v.bay c).est.fill = b.est.fill) ∧
      (∀ n, u.card = some n → (v.bay c).column.answer.map Answer.card = some n.toNat) ∧
      (u.card = none → b.column.answer = none → (v.bay c).column.answer = none) ∧
      (∀ a d, u.card = none → b.column.answer = some a → b.column.downlink = some d →
        d.tag = some a.card → (v.bay c).column.answer = none ∧
        (s.bus.state ≠ .draining → (v.bay c).display =
          match a.code with
          | .denied r => some r
          | _ => b.display)) ∧
      (∀ a n, s.bus.state ≠ .draining → u.card = some n → b.column.answer = some a → a.card = n.toNat →
        (v.bay c).column.answer = some a ∧ (v.bay c).display = b.display ∧ v.denials = s.denials ∧
        (v.bay c).record.tally = b.record.tally ∧ v.bus.tInact = s.bus.tInact ∧
        (b.hatch.cycle = none → v.openCards = s.openCards ∧ v.cards = s.cards)) ∧
      (b.column.lost = true → u.hatch ≠ .jammed → b.record.fault = .columnLost →
        (v.bay c).record.fault = .none) ∧
      (b.record.fault = .hatchJam → (v.bay c).record.fault = .hatchJam) ∧
      (u.hatch = .closed → (v.bay c).hatch.demand = none) ∧
      (u.hatch = .jammed → (v.bay c).record.fault ≠ .none ∧ (v.bay c).hatch.cycle = none)

/-! ## Hatch cycles -/

/-- O37. Drum turns (sections 3.2 and 3.3): how many an uplink's count stands for; the first turn of a cycle in
Granted or Opened is its deposit, every other is stray. The turns are taken one after another; each adds one deposit
volume and is evaluated before the next (`depositVolume`, O19 and O22), a deposit before its close demand starts.
The premise on the stray tally is a range that O51 states. -/
def Obligations.DrumTurnsAreTaken : Prop :=
  (∀ n : Nat, turnsOf none false n = 0 ∧ turnsOf none true n = 0) ∧
  (∀ b n : Nat, b ≤ 255 → n ≤ 255 →
    turnsOf (some b) true n = 0 ∧
    ∃ advance : Nat, advance ≤ 255 ∧ (advance = n - b ∧ b ≤ n ∨ advance = n + 256 - b ∧ n < b) ∧
      turnsOf (some b) false n = if advance ≤ 15 then advance else 0) ∧
  (∀ (s : State) (c : Box),
    let h := (s.bay c).hatch
    takeTurns c 0 s = s ∧
    (∀ n : Nat, takeTurns c (n + 1) s = takeTurns c n (takeTurns c 1 s)) ∧
    (∀ k : Cycle, h.cycle = some k → k.phase ≠ .deposited →
      takeTurns c 1 s = (depositVolume c (s.modBay c fun b => { b with hatch := { b.hatch with
          cycle := some { k with phase := .deposited, confirmed := true }, tOw := none, tDep := none } })).modBay c
        fun b => { b with hatch := { b.hatch with demand :=
          match h.demand with
          | some d => some d
          | none =>
            if b.column.lost = true ∨ s.bus.state = .quiet ∨ s.bus.state = .blocked then some .held
            else some (.running s.settings.tCl) } }) ∧
    ((∀ k : Cycle, h.cycle = some k → k.phase = .deposited) →
      takeTurns c 1 s = (depositVolume c s).modBay c fun b =>
        { b with hatch := { b.hatch with stray := min 65535 (h.stray + 1) } })) ∧
  (∀ (s : State) (c : Box) (n : Nat), 1 ≤ n → (s.bay c).hatch.stray ≤ 65535 →
    let b := s.bay c
    let t := takeTurns c n s
    let deposits := ∃ k ∈ b.hatch.cycle, k.phase ≠ .deposited
    t = { s with bays := t.bays, orders := t.orders, orderCounter := t.orderCounter } ∧
    (∀ d : Box, d ≠ c → t.bay d = s.bay d) ∧
    t.bay c =
      { b with
        est := { (addVolume b.record.config)^[n] b.est with closeFlag := (t.bay c).est.closeFlag }
        hatch :=
          if deposits then
            { b.hatch with
              cycle := b.hatch.cycle.map fun k => { k with phase := .deposited, confirmed := true }
              tOw := none, tDep := none
              demand := match b.hatch.demand with
                | some d => some d
                | none =>
                  if b.column.lost = true ∨ s.bus.state = .quiet ∨ s.bus.state = .blocked then some .held
                  else some (.running s.settings.tCl)
              stray := min 65535 (b.hatch.stray + (n - 1)) }
          else { b.hatch with stray := min 65535 (b.hatch.stray + n) } })

/-- O38. The hatch state of a Valid uplink against the phase of the cycle (section 3.2, table of R51), and a
HatchJam request (section 3.4). The end of a cycle is O43's. -/
def Obligations.HatchReportsMovePhases : Prop :=
  ∀ (s : State) (c : Box),
    let h := (s.bay c).hatch
    let met (t : State) := t.modBay c fun b => { b with hatch := { b.hatch with demand := none } }
    let jammed := if (s.bay c).record.fault = .none
      then raise .containerFault (s.modBay c fun b => { b with record := { b.record with fault := .hatchJam } })
      else s
    hatchReport c .opening s = s ∧ hatchReport c .closing s = s ∧
    (h.cycle = none →
      hatchReport c .closed s = met s ∧ hatchReport c .opened s = s ∧ hatchReport c .jammed s = jammed) ∧
    (∀ k : Cycle, h.cycle = some k →
      hatchReport c .closed s =
        (match k.phase with
          | .granted => met s
          | .opened => met (endCycle c .noDeposit .closedReport s)
          | .deposited => met (endCycle c .deposit .closedReport s)) ∧
      hatchReport c .opened s =
        (if k.phase = .granted then
          s.modBay c fun b => { b with hatch := { b.hatch with
            cycle := some { k with phase := .opened }, tOw := none, tDep := some s.settings.tDep } }
        else s) ∧
      hatchReport c .jammed s =
        endCycle c (if k.confirmed = true then .deposit else .noDeposit) .other jammed)

/-! ## Presentations -/

/-- O39. A presentation is decided by the eleven checks in order: the first that fails gives the reason, and a
presentation that fails none is granted (section 4.4). What the checks read: the card's record by its number, the
operating state by the six rows of section 1.4, the curfew by the window of the fraction (section 1.6), a fraction
set by the bit of the fraction's code (section 10.8). -/
def Obligations.DecisionFollowsTheChecks : Prop :=
  (∀ b : Bay, opState b =
    if b.record.started = false then .dormant
    else if b.hold.service = true ∨ b.hold.emptying ≠ none then
      (if b.hatch.cycle ≠ none then .quiescing else .held)
    else if b.record.fault ≠ .none then .inFault
    else if b.est.closeFlag = true then .fullClosed
    else .opened) ∧
  (∀ f : Fraction, fractionCode f =
    match f with
    | .residual => 0
    | .paper => 1
    | .packaging => 2
    | .glass => 3
    | .organic => 4) ∧
  (∀ (s : State) (f : Fraction),
    let w := s.settings.curfew[fractionCode f]
    let m := s.clock.minute % 1440
    underCurfew s f = true ↔ s.clock.set = true ∧
      (w.start < w.stop ∧ w.start ≤ m ∧ m < w.stop ∨ w.stop < w.start ∧ (w.start ≤ m ∨ m < w.stop))) ∧
  (∀ (f : Fraction) (set : BitVec 8), inFractions f set = set.getLsbD (fractionCode f)) ∧
  (∀ (s : State) (n : Nat), s.cardOf n = s.cards.find? fun k => k.number == n) ∧
  ∀ (s : State) (c : Box) (card : Nat) (draining : Bool) (k : CardRecord),
    s.cardOf card = some k ∨ s.cardOf card = none →
    (decidePresentation c card draining s).1 =
      match firstFailing (presentationChecks s c card k draining) with
      | some r => .denied r
      | none => .granted

/-- O40. What a new presentation does (sections 4.4 and 2.1): its answer becomes pending; in Woken T_inact starts
again; a denial advances the counter of its reason, each reason having its own (section 4.5), and the tally,
and a Lost card is sighted; a grant reserves the charge and a log slot, joins the open-card set and creates the cycle record. -/
def Obligations.GrantsAndDenials : Prop :=
  (∀ q r : DenialReason, reasonIndex q = reasonIndex r → q = r) ∧
  ∀ (s : State) (c : Box) (card : Nat),
    let b := s.bay c
    let draining := s.bus.state == .draining || s.bus.state == .quiet
    let code := (decidePresentation c card draining s).1
    let t := newPresentation c card s
    let bus := if s.bus.state = .woken then { s.bus with tInact := some s.settings.tInact } else s.bus
    (t.bay c).column = { b.column with answer := some ⟨card, code⟩ } ∧
    (∀ r : DenialReason, code = .denied r →
      t = { s with
        bays := s.bays.set c
          { b with
            record := { b.record with tally := min 65535 (b.record.tally + 1) }
            column := { b.column with answer := some ⟨card, code⟩ }, display := none }
        bus := bus
        denials := s.denials.set (reasonIndex r) (min 65535 (s.denials[reasonIndex r] + 1))
        sighting := t.sighting, port := t.port } ∧
      (∀ k, s.cardOf card = some k → r = .cardBlocked → k.status = .lost →
        t.sighting = some ⟨k.number, k.household, c, stamp s⟩ ∧
        t.port = (raise .lostCardSeen s).port) ∧
      ((∀ k, s.cardOf card = some k → r = .cardBlocked → k.status ≠ .lost) →
        t.sighting = s.sighting ∧ t.port = s.port)) ∧
    (code = .granted → ∃ k, s.cardOf card = some k ∧
      t = { s with
        bays := s.bays.set c
          { b with
            column := { b.column with answer := some ⟨card, code⟩ }, display := none
            hatch := { b.hatch with
              cycle := some ⟨k.number, k.household, b.record.config.charge, stamp s, .granted, false⟩
              tOw := some s.settings.tOw, tDep := none, demand := none } }
        bus := bus
        openCards := s.openCards ++ [k.number], reserved := s.reserved + 1
        cards := s.cards.map fun x => if x.number = k.number
          then { x with remaining := x.remaining - b.record.config.charge } else x })

/-! ## Line, cycle ends, timers -/

/-- O41. The line and the wake qualifier (section 2.4): an edge, a level held for Tf, a qualified pattern, and the
end of the window. What an edge adds to the stuck-line measure is log entry 17, how the level's run is kept
log entry 16. That the window's expiry outside Seeking changes nothing is log entry 6; that a wake's new cycle
gives up a slot still in progress is log entry 11. -/
def Obligations.LineEventsQualifyWakes : Prop :=
  ∀ s : State,
    (∀ (held : Quad) (transmitting : Bool),
      exec (.lineEdge s.bus.level held transmitting) s = .next s) ∧
    (∀ (level : LineLevel) (held : Quad) (transmitting : Bool), level ≠ s.bus.level →
      exec (.lineEdge level held transmitting) s = .next { s with bus := { s.bus with
        level := level, heldTf := false
        stuck := if level = .active then (if held.toNat = 0 then s.bus.stuck else 0)
          else if transmitting = true then s.bus.stuck + held.toNat else 0
        qualifier := if s.bus.state = .quiet ∧ s.bus.qualifier = .ready ∧ level = .active
          then .seeking 0 else s.bus.qualifier } }) ∧
    (let u := { s with bus := { s.bus with heldTf := true } }
     let third := match s.bus.qualifier with
        | .seeking n => decide (2 ≤ n)
        | _ => false
     let wakes := s.bus.state = .quiet ∧ third = true ∧ s.bus.level = .active
     (¬ wakes → exec .wakeTfElapsed s = .next { u with bus := { u.bus with qualifier :=
        match s.bus.qualifier with
        | .recovering =>
          if s.bus.state = .quiet ∧ s.bus.level = .idle then .ready else .recovering
        | .seeking n =>
          if s.bus.state = .quiet ∧ n < 2 ∧ s.bus.level = (if n = 1 then .idle else .active)
          then .seeking (n + 1) else .seeking n
        | .off => .off
        | .ready => .ready } }) ∧
     (wakes → exec .wakeTfElapsed s = .next (startCycle
        { (if s.bus.firstWake = true then u else raise .wake u) with bus := { u.bus with
            state := .woken, target := none, qualifier := .off, firstWake := true
            tInact := some s.settings.tInact, flags := s.bus.flags ||| 16#6 } }))) ∧
    exec .wakeWindowExpiry s = .next { s with bus := { s.bus with qualifier :=
      match s.bus.qualifier with
      | .seeking n =>
        if s.bus.state = .quiet then
          (if s.bus.level = .idle ∧ s.bus.heldTf = true then .ready else .recovering)
        else .seeking n
      | q => q } }

/-- O42. The entry to Blocked (section 2.4, section 3.5): the target, the slots given up, every cycle ended
Unconfirmed with its baseline unset (`endCycle`, which O43 states, at each container with a cycle), its charge refunded
and its log record appended, answers and displays dropped, StuckSeen and LineStuck. The measure passes
20 ms only while the line is active: on an idle line, as on a Blocked bus, the event changes nothing (log entry
17). The order of the ends is free (log entry 8). The premise is the agreement that O54 states. -/
def Obligations.StuckLineBlocksTheBus : Prop :=
  ∀ s : State,
    (s.bus.state = .blocked ∨ s.bus.level = .idle → exec .stuckLineDetected s = .next s) ∧
    (s.bus.state ≠ .blocked → s.bus.level = .active → s.cyclesAgree →
      let ending := (List.finRange 32).filter fun c : Box => (s.bay c).hatch.cycle.isSome
      let blocked : Bus := { s.bus with
        state := .blocked, tInact := none, qualifier := .off, slots := []
        target := if s.bus.state = .active then some .active else some .quiet }
      let paused (b : Bay) : Bay :=
        { b with
          hatch := { b.hatch with demand := b.hatch.demand.map fun d =>
            match d with
            | .running _ => .held
            | .held => .held
            | .spent => .spent }
          column := { b.column with answer := none }
          display := none }
      ∃ t, exec .stuckLineDetected s = .next t ∧
        (∃ order : List Box, order.Perm ending ∧
          let u := order.foldl
            (fun v c => (endCycle c .unconfirmed .other v).modBay c fun b =>
              { b with hatch := { b.hatch with baseline := none } })
            { s with bus := blocked, draws := t.draws }
          t = raise .lineStuck { u with
            bays := Vector.ofFn fun c => paused (u.bay c)
            bus := { blocked with flags := s.bus.flags ||| 32#6 } }) ∧
        t.bus = { blocked with flags := s.bus.flags ||| 32#6 } ∧
        t.openCards = [] ∧ t.reserved = 0 ∧
        t.cards = (s.cards.map fun x =>
          match ((List.finRange 32).filterMap fun c : Box => (s.bay c).hatch.cycle).find?
              (fun k => k.card == x.number) with
          | some k => { x with remaining := min s.settings.plans[x.plan] (x.remaining + k.charge) }
          | none => x) ∧
        (∃ ended : List LogRecord, t.log = s.log ++ ended ∧ ended.length = s.openCards.length ∧
          (ended.map LogRecord.container).Perm ending ∧
          ∀ r ∈ ended, r.outcome = .unconfirmed ∧ r.applied = 0 ∧
            ∃ k ∈ (s.bay r.container).hatch.cycle, r.card = k.card ∧ r.household = k.household ∧
              r.time = k.time ∧ r.fraction = (s.bay r.container).record.config.fraction ∧
              r.after = (t.cards.find? fun x => x.number == k.card).map CardRecord.remaining) ∧
        t.port.items.getLsbD 8 = true ∧
        t.clock = s.clock ∧ t.settings = s.settings ∧ t.denials = s.denials ∧ t.sighting = s.sighting ∧
        t.history = s.history ∧ t.dock = s.dock ∧
        ∀ c : Box,
          (t.bay c).record = (s.bay c).record ∧
          (t.bay c).column = { (s.bay c).column with answer := none } ∧ (t.bay c).display = none ∧
          (t.bay c).hatch.cycle = none ∧ (t.bay c).hatch.stray = (s.bay c).hatch.stray ∧
          (∀ n, (t.bay c).hatch.demand ≠ some (.running n)) ∧
          ((s.bay c).hatch.cycle = none →
            (t.bay c).hatch.baseline = (s.bay c).hatch.baseline ∧ (t.bay c).est = (s.bay c).est ∧
            (t.bay c).hold = (s.bay c).hold ∧
            ((t.bay c).hatch.demand = none ↔ (s.bay c).hatch.demand = none)) ∧
          (∀ k, (s.bay c).hatch.cycle = some k →
            (t.bay c).hatch.baseline = none ∧ (t.bay c).hatch.demand ≠ none ∧
            ((t.bay c).est =
              { (if k.confirmed = true then (s.bay c).est
                  else addVolume (s.bay c).record.config (s.bay c).est) with
                closeFlag := (t.bay c).est.closeFlag }) ∧
            ((s.bay c).hold.requested = true →
              (t.bay c).hold = { (s.bay c).hold with tQ := none })))

/-- O43. The end of a hatch cycle (sections 3.5, 5.2 and 5.4), every field it changes: the record, its timers and the
card go; the charge is kept or refunded; one log record is appended; an Unconfirmed end without a confirmed
deposit adds one volume (O19, O22); a close demand that stands stays, and but for a Closed report or a service
reset one starts where none stands, its T_cl running or, the column lost or polling stopped, held; T_q stops and a
forced end is marked; a Draining bus left without a cycle becomes Quiet (`paused` at every container, O31). That this
entry to Quiet makes the qualifier Ready at once on an idle run already Tf old is log entry 16. -/
def Obligations.CycleEndsSettleAndLog : Prop :=
  ∀ (s : State) (c : Box) (o : CycleOutcome) (cause : EndCause),
    ((s.bay c).hatch.cycle = none → endCycle c o cause s = s) ∧
    (∀ k : Cycle, (s.bay c).hatch.cycle = some k →
      let b := s.bay c
      let t := endCycle c o cause s
      let after := if o = .unconfirmed ∧ k.confirmed = false then depositVolume c s else s
      let quiets := s.bus.state = .draining ∧ ∀ d : Box, d ≠ c → (s.bay d).hatch.cycle = none
      let paused (b : Bay) : Bay :=
        { b with
          hatch := { b.hatch with demand := b.hatch.demand.map fun d =>
            match d with
            | .running _ => .held
            | .held => .held
            | .spent => .spent }
          column := { b.column with answer := none }
          display := none }
      let ended : Bay :=
        { b with
          hatch := { b.hatch with
            cycle := none, tOw := none, tDep := none
            demand :=
              if cause = .closedReport ∨ cause = .resetEnd then b.hatch.demand
              else match b.hatch.demand with
                | some d => some d
                | none =>
                  if b.column.lost = true ∨ s.bus.state = .quiet ∨ s.bus.state = .blocked then some .held
                  else some (.running s.settings.tCl) }
          est := (after.bay c).est
          hold := if b.hold.service = true ∨ b.hold.emptying ≠ none
            then { b.hold with tQ := none, forced := b.hold.forced || decide (cause = .forcedEnd) }
            else b.hold }
      t = { s with
        bays := t.bays, openCards := s.openCards.erase k.card, reserved := s.reserved - 1
        cards := if o = .deposit then s.cards else s.cards.map fun x => if x.number = k.card
          then { x with remaining := min s.settings.plans[x.plan] (x.remaining + k.charge) } else x
        log := s.log ++
          [{ sequence := s.nextSequence, time := k.time, card := k.card, household := k.household
             container := c, fraction := b.record.config.fraction, outcome := o
             applied := if o = .deposit then k.charge else 0
             after := (t.cards.find? fun x => x.number == k.card).map CardRecord.remaining }]
        nextSequence := (s.nextSequence + 1) % 4294967296
        port := if s.log.length + 1 = 768 then (raise .logHigh s).port else s.port
        orders := after.orders, orderCounter := after.orderCounter
        bus := if quiets then
            { s.bus with
              state := .quiet, target := none, tInact := none, firstWake := false
              qualifier := if s.bus.level = .idle ∧ s.bus.heldTf = true then .ready else .recovering
              slots := s.bus.slots.take 1 }
          else s.bus } ∧
      t.bay c = (if quiets then paused ended else ended) ∧
      ∀ d : Box, d ≠ c → t.bay d = if quiets then paused (s.bay d) else s.bay d)

/-- O44. The timers of one container (sections 3.3, 3.4, 4.4 and 9.4): T_ow, T_dep, T_cl, T_q and the denial display.
An expiry of a timer that does not run changes nothing (log entry 6). -/
def Obligations.ContainerTimersExpire : Prop :=
  ∀ (s : State) (c : Box),
    let h := (s.bay c).hatch
    exec (.tOwExpiry c) s = .next (if h.tOw = none then s else endCycle c .noDeposit .other s) ∧
    exec (.tDepExpiry c) s = .next (if h.tDep = none then s else endCycle c .noDeposit .other s) ∧
    (∀ n, h.demand = some (.running n) →
      exec (.tClExpiry c) s = .next (hatchReport c .jammed
        (s.modBay c fun b => { b with hatch := { b.hatch with demand := some .spent } }))) ∧
    ((∀ n, h.demand ≠ some (.running n)) → exec (.tClExpiry c) s = .next s) ∧
    ((s.bay c).hold.tQ = none → exec (.tQExpiry c) s = .next s) ∧
    ((s.bay c).hold.tQ ≠ none →
      let u := s.modBay c fun b => { b with hold := { b.hold with tQ := none } }
      (h.cycle = none → exec (.tQExpiry c) s = .next u) ∧
      (∀ k, h.cycle = some k → exec (.tQExpiry c) s = .next
        (endCycle c (if k.confirmed = true then .deposit else .cut) .forcedEnd u))) ∧
    exec (.denialDisplayExpiry c) s = .next (s.modBay c fun b => { b with display := none })

/-! ## The vehicle link -/

/-- O45. Status, an unknown message and a discarded frame (sections 9.1 and 9.2): a frame from the docked id restarts
T_dock, the reply carries the hold list of the sender, and no record changes. -/
def Obligations.StatusAndUnknownMessages : Prop :=
  ∀ (s : State) (vid : Half),
    restartDock vid s =
      { s with dock := s.dock.map fun d =>
          if d.vehicle = vid.toNat then { d with tDock := s.settings.tDock } else d } ∧
    exec .vehicleFrameDiscarded s = .next s ∧
    exec (.unknownMessage vid) s = .next (turnedAway vid .badMessage s) ∧
    (∀ fits : Bool, fits = false ∨ vid = 0#16 →
      exec (.status fits vid) s = .next (turnedAway vid .badMessage s)) ∧
    (vid ≠ 0#16 → exec (.status true vid) s = .next (turnedAway vid .ok s)) ∧
    (holdList s vid.toNat).map HoldEntry.container =
      (List.finRange 32).filter (fun c : Box => (s.bay c).hold.emptying == some vid.toNat) ∧
    ∀ e ∈ holdList s vid.toNat,
      let b := s.bay e.container
      let found := s.orders.find? fun o => o.container == e.container
      e.claim = (if b.hatch.cycle ≠ none then .quiescing else if b.hold.forced = true then .heldForced else .held) ∧
      e.reported = b.hold.reported ∧
      e.order = (found.filter fun o => o.state == .claimed && o.vehicle == some vid.toNat).map Order.number

/-- O46. Dock and Refresh (section 9.2, section 8.3): refusals; the dock record, the adopted holds, and the offer,
the first eight ranked Pending orders of the vehicle's fractions whose containers no vehicle holds; a
Refresh returns every Offered order first, to Pending, or to Aborted where its abort is requested: the entries of those
join the history in the order of the returns, which is free (log entry 8), and HistoryNew is raised as the appends
ask. The premises of Refresh are the order list's and the offers', which O58 states, and the line's, which O33
states. -/
def Obligations.DockAndRefreshOffer : Prop :=
  ∀ (s : State) (vid : Half) (fractions : Byte),
    let eligible (f : BitVec 8) (o : Order) : Bool :=
      o.state == .pending && f.getLsbD (fractionCode (s.bay o.container).record.config.fraction) &&
        (s.bay o.container).hold.emptying.isNone
    let choose (f : BitVec 8) (l : List Order) : List Order :=
      l.map fun o => if o.container ∈ (((ranked l).filter (eligible f)).take 8).map Order.container
        then { o with state := .offered, vehicle := some vid.toNat } else o
    let offer (t : State) : ReplyBody :=
      .offer (((ranked t.orders).filter fun o => o.state == .offered).map fun o =>
        { order := o.number, container := o.container
          cluster := (s.bay o.container).record.config.cluster
          fraction := (s.bay o.container).record.config.fraction, priority := o.priority
          unverified := o.unverified
          percent :=
            let b := s.bay o.container
            (if b.est.mode = .doubtful then max b.est.fill (b.est.mLast.getD 0) else b.est.fill) * 100 /
              b.record.config.capacity })
    let returned := s.orders.filterMap fun o =>
      if o.state = .offered then
        (if o.abortRequested = true then none else some { o with state := .pending, vehicle := none })
      else some o
    (∀ fits : Bool, fits = false ∨ vid = 0#16 ∨ fractions = 0#8 ∨ 32 ≤ fractions.toNat →
      exec (.dock fits vid fractions) s = .next (turnedAway vid .badMessage s)) ∧
    (vid ≠ 0#16 → fractions ≠ 0#8 → fractions.toNat < 32 → s.dock ≠ none →
      exec (.dock true vid fractions) s = .next (turnedAway vid .dockBusy s)) ∧
    (vid ≠ 0#16 → fractions ≠ 0#8 → fractions.toNat < 32 → s.dock = none →
      ∃ t, exec (.dock true vid fractions) s = .next t ∧
        t = { s with
          bays := t.bays, orders := choose fractions s.orders
          dock := some ⟨vid.toNat, fractions, s.settings.tDock⟩, port := (raise .dock s).port
          reply := some ⟨.ok, holdList t vid.toNat, offer t⟩ } ∧
        ∀ c : Box, t.bay c =
          if (s.bay c).hold.emptying = some vid.toNat
          then { s.bay c with hold := { (s.bay c).hold with orphan := false } } else s.bay c) ∧
    (∀ fits : Bool, fits = false ∨ vid = 0#16 →
      exec (.refresh fits vid) s = .next (turnedAway vid .badMessage s)) ∧
    (vid ≠ 0#16 → (∀ d ∈ s.dock, d.vehicle ≠ vid.toNat) →
      exec (.refresh true vid) s = .next (turnedAway vid .notDocked s)) ∧
    (∀ d : DockRecord, vid ≠ 0#16 → s.dock = some d → d.vehicle = vid.toNat → s.ordersFit →
      let aborted := (s.orders.filter fun o => o.state == .offered && o.abortRequested).map fun o =>
        ({ number := o.number, label := o.label, container := o.container, origin := o.origin, outcome := .aborted
           mark := true, cause := none, mass := none, vehicle := o.vehicle, time := stamp s
           attempts := o.attempts } : HistoryEntry)
      let wraps := aborted ≠ [] ∧ 64 < s.history.length + aborted.length
      ∃ t, exec (.refresh true vid) s = .next t ∧
        t = { s with
          orders := choose d.fractions returned, history := t.history, wrapped := s.wrapped || decide wraps
          dock := some { d with tDock := s.settings.tDock }, draws := t.draws
          port := { s.port with items := t.port.items, line := t.port.line }
          reply := some ⟨.ok, holdList t vid.toNat, offer t⟩ } ∧
        (∃ ended : List HistoryEntry, ended.Perm aborted ∧
          t.history = (s.history ++ ended).drop
            (s.history.length + ended.length - max 64 s.history.length)) ∧
        (s.offersDocked → ∀ e ∈ aborted, e.vehicle = some d.vehicle) ∧
        (∀ i : Fin 10, t.port.items.getLsbD i = (s.port.items.getLsbD i ||
          decide (i = 7 ∧ aborted ≠ [] ∧ (s.history = [] ∨ s.wrapped = false ∧ wraps)))) ∧
        (s.port.lineAgrees → t.port.line = (followLine { s.port with items := t.port.items }).line) ∧
        ((∀ o ∈ s.orders, o.state = .offered → o.abortRequested = false) →
          t.history = s.history ∧ t.wrapped = s.wrapped ∧ t.port = s.port))

/-- O47. Undock and the expiry of T_dock (section 9.2): the Offered orders returned to Pending, or to Aborted where
the abort is requested, their entries appended (O46), the holds orphaned, the dock record gone, Undock raised; the
reply with an Undock only. The order of the returns is free (log entry 8). That an expiry of T_dock without a dock
record, where it does not run, changes nothing is log entry 6. The premises are the order list's and the offers',
which O58 states, and the line's, which O33 states. -/
def Obligations.DockEndsOrphanHolds : Prop :=
  ∀ (s : State) (vid : Half),
    (∀ fits : Bool, fits = false ∨ vid = 0#16 →
      exec (.undock fits vid) s = .next (turnedAway vid .badMessage s)) ∧
    (vid ≠ 0#16 → (∀ d ∈ s.dock, d.vehicle ≠ vid.toNat) →
      exec (.undock true vid) s = .next (turnedAway vid .notDocked s)) ∧
    (s.dock = none → exec .tDockExpiry s = .next s) ∧
    (∀ d : DockRecord, s.dock = some d → s.ordersFit →
      let aborted := (s.orders.filter fun o => o.state == .offered && o.abortRequested).map fun o =>
        ({ number := o.number, label := o.label, container := o.container, origin := o.origin, outcome := .aborted
           mark := true, cause := none, mass := none, vehicle := o.vehicle, time := stamp s
           attempts := o.attempts } : HistoryEntry)
      let wraps := aborted ≠ [] ∧ 64 < s.history.length + aborted.length
      ∃ t, exec .tDockExpiry s = .next t ∧
        t = { s with
          bays := t.bays, history := t.history, wrapped := s.wrapped || decide wraps, dock := none
          draws := t.draws
          port := { s.port with items := t.port.items, line := t.port.line }
          orders := s.orders.filterMap fun o =>
            if o.state = .offered then
              (if o.abortRequested = true then none else some { o with state := .pending, vehicle := none })
            else some o } ∧
        (∃ ended : List HistoryEntry, ended.Perm aborted ∧
          t.history = (s.history ++ ended).drop
            (s.history.length + ended.length - max 64 s.history.length)) ∧
        (s.offersDocked → ∀ e ∈ aborted, e.vehicle = some d.vehicle) ∧
        (∀ i : Fin 10, t.port.items.getLsbD i = (s.port.items.getLsbD i ||
          decide (i = 6 ∨ i = 7 ∧ aborted ≠ [] ∧ (s.history = [] ∨ s.wrapped = false ∧ wraps)))) ∧
        (s.port.lineAgrees → t.port.line = (followLine { s.port with items := t.port.items }).line) ∧
        (∀ c : Box, t.bay c =
          if (s.bay c).hold.emptying = some d.vehicle
          then { s.bay c with hold := { (s.bay c).hold with orphan := true } } else s.bay c) ∧
        ((∀ o ∈ s.orders, o.state = .offered → o.abortRequested = false) →
          t.history = s.history ∧ t.wrapped = s.wrapped ∧ t.port = (raise .undock s).port) ∧
        (vid ≠ 0#16 → d.vehicle = vid.toNat →
          exec (.undock true vid) s = .next { t with reply := some ⟨.ok, holdList t vid.toNat, .nothing⟩ }))

/-- O48. Claim (section 9.3, section 8.4): the checks in order; a repeat changes nothing; a taken claim binds the
order or creates one, and sets the emptying hold. The forced mark stays only under a standing service hold
(log entry 19). -/
def Obligations.ClaimBindsAndHolds : Prop :=
  ∀ (s : State) (vid : Half) (c : Box),
    let b := s.bay c
    let n := assignedNumber s
    let active := b.hatch.cycle ≠ none
    let u := restartDock vid s
    let body (t : State) : ReplyBody := .claimed c
      (if active then .quiescing else if (t.bay c).hold.forced = true then .heldForced else .held)
      (((t.orders.find? fun o => o.container == c).filter fun o =>
        o.state == .claimed && o.vehicle == some vid.toNat).map Order.number)
    (∀ (fits : Bool) (byte : Byte), fits = false ∨ vid = 0#16 ∨ 32 ≤ byte.toNat →
      exec (.claim fits vid byte) s = .next (turnedAway vid .badMessage s)) ∧
    (vid ≠ 0#16 →
      ((∀ d ∈ s.dock, d.vehicle ≠ vid.toNat) →
        exec (.claim true vid (byteOf c)) s = .next (turnedAway vid .notDocked s)) ∧
      (∀ d : DockRecord, s.dock = some d → d.vehicle = vid.toNat →
        let suits := d.fractions.getLsbD (fractionCode b.record.config.fraction) = true
        (b.record.started = false →
          exec (.claim true vid (byteOf c)) s = .next (turnedAway vid .notStarted s)) ∧
        (b.record.started = true → ¬ suits →
          exec (.claim true vid (byteOf c)) s = .next (turnedAway vid .wrongFraction s)) ∧
        (∀ v : Nat, b.record.started = true → suits → b.hold.emptying = some v → v ≠ vid.toNat →
          exec (.claim true vid (byteOf c)) s = .next (turnedAway vid .heldOther s)) ∧
        (b.record.started = true → suits → b.hold.emptying = some vid.toNat →
          exec (.claim true vid (byteOf c)) s = .next
            { u with reply := some ⟨.ok, holdList u vid.toNat, body u⟩ }) ∧
        (b.record.started = true → suits → b.hold.emptying = none →
          ∃ t, exec (.claim true vid (byteOf c)) s = .next t ∧
            t = { u with
              bays := s.bays.set c { b with hold :=
                { b.hold with
                  emptying := some vid.toNat, orphan := false, reported := false
                  forced := b.hold.service && b.hold.forced
                  tQ := if active ∧ b.hold.tQ = none then some s.settings.tQ else b.hold.tQ } }
              orders := t.orders, orderCounter := t.orderCounter
              reply := some ⟨.ok, holdList t vid.toNat, body t⟩ } ∧
            ((∃ o ∈ s.orders, o.container = c) →
              t.orderCounter = s.orderCounter ∧
              t.orders = s.orders.map fun o => if o.container = c
                then { o with state := .claimed, vehicle := some vid.toNat } else o) ∧
            ((∀ o ∈ s.orders, o.container ≠ c) →
              t.orderCounter = (if n < 65535 then n + 1 else 1) ∧
              t.orders = s.orders ++
                [{ number := n, container := c, origin := .vehicle, priority := 1, label := 0
                   oneShot := false, unverified := false, attempts := 0, state := .claimed
                   abortRequested := false, vehicle := some vid.toNat }]))))

/-- O49. Lift Report (section 9.3, sections 8.4 and 6.5): refusals; an accepted report sets the reported mark;
Emptied and Partial finish the order, set or halve the estimate and evaluate it (O22); Blocked counts an
attempt. -/
def Obligations.LiftReportFinishesOrReturns : Prop :=
  ∀ (s : State) (vid : Half) (c : Box) (mass : Half),
    let b := s.bay c
    let found := s.orders.find? fun o => o.container == c
    let bound := ∃ o ∈ found, o.state = .claimed ∧ o.vehicle = some vid.toNat
    let accepted := b.hold.emptying = some vid.toNat ∧ bound ∧ b.hold.reported = false
    let u := (restartDock vid s).modBay c fun b => { b with hold := { b.hold with reported := true } }
    let rest := s.orders.filter fun x => decide (x.container ≠ c)
    let replied (t : State) (o : Order) (outcome : LiftCode) : State :=
      { t with reply := some ⟨.ok, holdList t vid.toNat, .lifted (some o.number) outcome⟩ }
    let entry (o : Order) (outcome : OrderOutcome) (cause : Option FailCause) (m : Option Nat) (n : Nat) :
        HistoryEntry :=
      { number := o.number, label := o.label, container := c, origin := o.origin, outcome := outcome
        mark := o.abortRequested, cause := cause, mass := m, vehicle := some vid.toNat, time := stamp s
        attempts := n }
    (∀ (fits : Bool) (byte : Byte) (outcome : LiftCode),
      fits = false ∨ vid = 0#16 ∨ 32 ≤ byte.toNat ∨ outcome = .other →
      exec (.liftReport fits vid byte outcome mass) s = .next (turnedAway vid .badMessage s)) ∧
    (∀ outcome : LiftCode, vid ≠ 0#16 → outcome ≠ .other → (∀ d ∈ s.dock, d.vehicle ≠ vid.toNat) →
      exec (.liftReport true vid (byteOf c) outcome mass) s = .next (turnedAway vid .notDocked s)) ∧
    (∀ (d : DockRecord) (outcome : LiftCode), vid ≠ 0#16 → outcome ≠ .other → s.dock = some d →
      d.vehicle = vid.toNat → ¬ accepted →
      exec (.liftReport true vid (byteOf c) outcome mass) s = .next (turnedAway vid .noClaim s)) ∧
    (∀ (d : DockRecord) (o : Order), vid ≠ 0#16 → s.dock = some d → d.vehicle = vid.toNat → accepted →
      found = some o →
      exec (.liftReport true vid (byteOf c) .emptied mass) s = .next (replied
        (evaluate c ((appendHistory (entry o .emptied none (some mass.toNat) o.attempts)
            { u with orders := rest }).modBay c fun b => { b with est :=
          { b.est with
            fill := b.record.config.residual, rem := 0, mPrev := none, mLast := none, volume := 0
            window := [], fails := 0, clean := 0, silent := 0, adjust := 0, mode := .tracking } }))
        o .emptied) ∧
      exec (.liftReport true vid (byteOf c) .partLifted mass) s = .next (replied
        (evaluate c ((appendHistory (entry o .partLifted none (some mass.toNat) o.attempts)
            { u with orders := rest }).modBay c fun b => { b with est :=
          { b.est with
            fill := b.est.fill / 2, mPrev := none, mLast := none, volume := 0, window := [], clean := 0
            mode := if b.est.mode = .blind then .blind else .doubtful } }))
        o .partLifted) ∧
      exec (.liftReport true vid (byteOf c) .blocked mass) s = .next (replied
        (if o.oneShot = true ∨ 2 ≤ o.attempts then
          appendHistory (entry o .failed (some .blocked) none (o.attempts + 1)) { u with orders := rest }
        else if o.abortRequested = true then
          appendHistory (entry o .aborted none none (o.attempts + 1)) { u with orders := rest }
        else { u with orders := s.orders.map fun x => if x.container = c
          then { x with attempts := x.attempts + 1, state := .pending, vehicle := none } else x })
        o .blocked))

/-- O50. Release (section 9.3, section 8.4): refusals; the emptying source goes, T_q and the forced mark with the
last source; a still-Claimed order returns to Pending, or finishes as Aborted. -/
def Obligations.ReleaseReturnsTheOrder : Prop :=
  ∀ (s : State) (vid : Half) (c : Box),
    let h := (s.bay c).hold
    let found := s.orders.find? fun o => o.container == c
    let u := (restartDock vid s).modBay c fun b => { b with hold :=
      { h with emptying := none, orphan := false, reported := false,
               tQ := if h.service = true then h.tQ else none, forced := h.service && h.forced } }
    let replied (t : State) : State := { t with reply := some ⟨.ok, holdList t vid.toNat, .nothing⟩ }
    (∀ (fits : Bool) (byte : Byte), fits = false ∨ vid = 0#16 ∨ 32 ≤ byte.toNat →
      exec (.release fits vid byte) s = .next (turnedAway vid .badMessage s)) ∧
    (vid ≠ 0#16 → (∀ d ∈ s.dock, d.vehicle ≠ vid.toNat) →
      exec (.release true vid (byteOf c)) s = .next (turnedAway vid .notDocked s)) ∧
    (∀ d : DockRecord, vid ≠ 0#16 → s.dock = some d → d.vehicle = vid.toNat → h.emptying ≠ some vid.toNat →
      exec (.release true vid (byteOf c)) s = .next (turnedAway vid .notHeld s)) ∧
    (∀ d : DockRecord, vid ≠ 0#16 → s.dock = some d → d.vehicle = vid.toNat → h.emptying = some vid.toNat →
      ((∀ o ∈ found, ¬ (o.state = .claimed ∧ o.vehicle = some vid.toNat)) →
        exec (.release true vid (byteOf c)) s = .next (replied u)) ∧
      (∀ o : Order, found = some o → o.state = .claimed → o.vehicle = some vid.toNat →
        exec (.release true vid (byteOf c)) s = .next (replied
          (if o.abortRequested = true then
            appendHistory
              { number := o.number, label := o.label, container := c, origin := o.origin
                outcome := .aborted, mark := true, cause := none, mass := none, vehicle := some vid.toNat
                time := stamp s, attempts := o.attempts }
              { u with orders := s.orders.filter fun x => decide (x.container ≠ c) }
          else { u with orders := s.orders.map fun x => if x.container = c
            then { x with state := .pending, vehicle := none } else x }))))

/-! ## Invariants of every step -/

/-- O51. Every step keeps the configuration fields in the ranges of section 1.1 and the estimate records in those
of section 6.1; and it keeps the denial counters and tallies, the slot counters, the stray tallies, the drum
baselines and the order-number counter in theirs and the history within 64 entries (sections 1.1, 2.2, 3.2, 3.3,
4.5, 8.1 and 8.7). -/
def Obligations.RecordsStayInRange : Prop :=
  (∀ s t : State, s.recordsInRange → step s = .next t → t.recordsInRange) ∧
  (∀ s t : State, s.countersInRange → step s = .next t → t.countersInRange)

/-- O52. Every step keeps the reading windows in order, their values and the measured fills within the capacity, and
the adjustment in its range (sections 6.1 and 6.3). That the arrival ranks of a window are 1 to the number of its
entries is the model's numbering (log entry 31). -/
def Obligations.MeasurementsStayInRange : Prop :=
  ∀ s t : State, s.measuresInRange → step s = .next t → t.measuresInRange

/-- O53. Every step keeps the card list in ascending order within its capacity, every allowance between 0 and the
value of its plan, the settings and the clock in their ranges (sections 4.1, 5.1, 10.6 and 1.5); and the places of the
record storage used so far cover the list and lie within its 4096 (the model's count, log entry 35). -/
def Obligations.CardsAndSettingsStayInRange : Prop :=
  ∀ s t : State,
    s.cardsOrdered ∧ s.storageCovers ∧ s.allowancesBounded ∧ s.settings.inRange ∧ s.clock.inRange →
    step s = .next t →
    t.cardsOrdered ∧ t.storageCovers ∧ t.allowancesBounded ∧ t.settings.inRange ∧ t.clock.inRange

/-- O54. Every step keeps the open-card set, the reserved log slots and the active cycles equal, and occupied plus
reserved within 1024 (sections 4.3 and 5.4). -/
def Obligations.OpenCardsMatchCycles : Prop :=
  ∀ s t : State, s.cyclesAgree ∧ s.logHasRoom → step s = .next t → t.cyclesAgree ∧ t.logHasRoom

/-- O55. Every step keeps the sequence numbers of the log consecutive; and no event but a power-on reset or a
release (taken or waiting) takes a record out of the log (section 5.4). -/
def Obligations.LogStaysInSequence : Prop :=
  (∀ s t : State, s.logInSequence → step s = .next t → t.logInSequence) ∧
  (∀ (i : Instr) (s t : State), i ≠ .powerOnReset → (∀ len n, i ≠ .releaseLog len n) →
    (i = .queuedCommandStart → ∀ w ∈ s.port.waiting.head?, ∀ len n, w.command ≠ .releaseLog len n) →
    exec i s = .next t → s.log <+: t.log)

/-- O56. Every step keeps the phases, timers and close demands of the cycles in agreement, and a container with a
cycle started and without a fault (sections 3.1 to 3.4). -/
def Obligations.CyclesMatchTimersAndState : Prop :=
  ∀ s t : State, s.hatchesAgree → step s = .next t → t.hatchesAgree

/-- O57. Every step keeps: no cycle active while the bus is Quiet or Blocked, no slot while Blocked, a target
exactly while Blocked, the qualifier only while Quiet, T_inact exactly while Woken (section 2.4). That no
slot is held while Blocked is how the model keeps the abandoned slot. -/
def Obligations.BusModesAgree : Prop :=
  ∀ s t : State, s.silentBusIdle ∧ s.bus.modesAgree → step s = .next t → t.silentBusIdle ∧ t.bus.modesAgree

/-- O58. Every step keeps: at most one order per container and none for a Dormant one; a vehicle id exactly while
Offered or Claimed; a Claimed order's container held by its vehicle; orders Offered only to the docked
vehicle (sections 8.1, 8.3 and 8.4). -/
def Obligations.OrdersAgree : Prop :=
  ∀ s t : State, s.ordersAgree → step s = .next t → t.ordersAgree

/-- O59. Every step keeps: clean marks without a source, T_q exactly while Quiescing, and an orphan mark exactly
where the vehicle of the source is not docked (sections 9.2 to 9.4). -/
def Obligations.HoldsAgree : Prop :=
  ∀ s t : State, s.holdsAgree → step s = .next t → t.holdsAgree

/-- O60. All of these hold of the machine right after a power-on reset. -/
def Obligations.InvariantsHoldAtReset : Prop :=
  State.reset.recordsInRange ∧ State.reset.countersInRange ∧ State.reset.measuresInRange ∧ State.reset.cardsOrdered ∧
  State.reset.storageCovers ∧ State.reset.allowancesBounded ∧ State.reset.settings.inRange ∧ State.reset.clock.inRange ∧
  State.reset.cyclesAgree ∧ State.reset.logHasRoom ∧ State.reset.logInSequence ∧
  State.reset.hatchesAgree ∧ State.reset.silentBusIdle ∧ State.reset.bus.modesAgree ∧
  State.reset.ordersAgree ∧ State.reset.holdsAgree ∧ State.reset.port.lineAgrees
end

