-- ==== Sys2Proof/Laws/State.lean ====
section
/-! SUPPORT. What each named update of the state leaves in each field: the lemmas that make it unnecessary to
unfold an update. Updates of one record of a container are read through `modBay`. -/

namespace Sys2Proof.Machine

open Sys2Proof

variable {s : State} {c d : Box}

/-! ## `modBay` -/

@[simp] theorem bay_modBay_self {f : Bay → Bay} : (s.modBay c f).bay c = f (s.bay c) := by
  simp [State.modBay, State.bay]

@[simp] theorem bay_modBay_ne {f : Bay → Bay} (h : d ≠ c) : (s.modBay c f).bay d = s.bay d := by
  have hv : c.val ≠ d.val := fun e => h (Fin.ext e.symm)
  simp [State.modBay, State.bay, Vector.getElem_set_ne, hv]

theorem bay_modBay {f : Bay → Bay} : (s.modBay c f).bay d = if d = c then f (s.bay c) else s.bay d := by
  by_cases h : d = c
  · subst h; simp
  · simp [h]

/-- A state is read at a container through its `bays` alone. -/
theorem bay_of_bays_eq {t : State} (h : t.bays = s.bays) : t.bay c = s.bay c := by
  simp [State.bay, h]

/-- Two states with the same records at every container hold the same `bays`. -/
theorem bays_ext {t : State} (h : ∀ c, t.bay c = s.bay c) : t.bays = s.bays :=
  Vector.ext fun i hi => h ⟨i, hi⟩

@[simp] theorem clock_modBay {f : Bay → Bay} : (s.modBay c f).clock = s.clock := rfl
@[simp] theorem settings_modBay {f : Bay → Bay} : (s.modBay c f).settings = s.settings := rfl
@[simp] theorem bus_modBay {f : Bay → Bay} : (s.modBay c f).bus = s.bus := rfl
@[simp] theorem cards_modBay {f : Bay → Bay} : (s.modBay c f).cards = s.cards := rfl
@[simp] theorem cardStorage_modBay {f : Bay → Bay} : (s.modBay c f).cardStorage = s.cardStorage := rfl
@[simp] theorem openCards_modBay {f : Bay → Bay} : (s.modBay c f).openCards = s.openCards := rfl
@[simp] theorem denials_modBay {f : Bay → Bay} : (s.modBay c f).denials = s.denials := rfl
@[simp] theorem sighting_modBay {f : Bay → Bay} : (s.modBay c f).sighting = s.sighting := rfl
@[simp] theorem log_modBay {f : Bay → Bay} : (s.modBay c f).log = s.log := rfl
@[simp] theorem reserved_modBay {f : Bay → Bay} : (s.modBay c f).reserved = s.reserved := rfl
@[simp] theorem nextSequence_modBay {f : Bay → Bay} : (s.modBay c f).nextSequence = s.nextSequence := rfl
@[simp] theorem orders_modBay {f : Bay → Bay} : (s.modBay c f).orders = s.orders := rfl
@[simp] theorem orderCounter_modBay {f : Bay → Bay} : (s.modBay c f).orderCounter = s.orderCounter := rfl
@[simp] theorem history_modBay {f : Bay → Bay} : (s.modBay c f).history = s.history := rfl
@[simp] theorem wrapped_modBay {f : Bay → Bay} : (s.modBay c f).wrapped = s.wrapped := rfl
@[simp] theorem dock_modBay {f : Bay → Bay} : (s.modBay c f).dock = s.dock := rfl
@[simp] theorem reply_modBay {f : Bay → Bay} : (s.modBay c f).reply = s.reply := rfl
@[simp] theorem port_modBay {f : Bay → Bay} : (s.modBay c f).port = s.port := rfl
@[simp] theorem draws_modBay {f : Bay → Bay} : (s.modBay c f).draws = s.draws := rfl
@[simp] theorem pending_modBay {f : Bay → Bay} : (s.modBay c f).pending = s.pending := rfl

/-! ## `mapBays` -/

@[simp] theorem bay_mapBays {f : Bay → Bay} : (s.mapBays f).bay c = f (s.bay c) := by
  simp [State.mapBays, State.bay]

@[simp] theorem clock_mapBays {f : Bay → Bay} : (s.mapBays f).clock = s.clock := by simp only [State.mapBays]
@[simp] theorem settings_mapBays {f : Bay → Bay} : (s.mapBays f).settings = s.settings := by simp only [State.mapBays]
@[simp] theorem bus_mapBays {f : Bay → Bay} : (s.mapBays f).bus = s.bus := by simp only [State.mapBays]
@[simp] theorem cards_mapBays {f : Bay → Bay} : (s.mapBays f).cards = s.cards := by simp only [State.mapBays]
@[simp] theorem cardStorage_mapBays {f : Bay → Bay} : (s.mapBays f).cardStorage = s.cardStorage := by simp only [State.mapBays]
@[simp] theorem openCards_mapBays {f : Bay → Bay} : (s.mapBays f).openCards = s.openCards := by simp only [State.mapBays]
@[simp] theorem denials_mapBays {f : Bay → Bay} : (s.mapBays f).denials = s.denials := by simp only [State.mapBays]
@[simp] theorem sighting_mapBays {f : Bay → Bay} : (s.mapBays f).sighting = s.sighting := by simp only [State.mapBays]
@[simp] theorem log_mapBays {f : Bay → Bay} : (s.mapBays f).log = s.log := by simp only [State.mapBays]
@[simp] theorem reserved_mapBays {f : Bay → Bay} : (s.mapBays f).reserved = s.reserved := by simp only [State.mapBays]
@[simp] theorem nextSequence_mapBays {f : Bay → Bay} : (s.mapBays f).nextSequence = s.nextSequence := by simp only [State.mapBays]
@[simp] theorem orders_mapBays {f : Bay → Bay} : (s.mapBays f).orders = s.orders := by simp only [State.mapBays]
@[simp] theorem orderCounter_mapBays {f : Bay → Bay} : (s.mapBays f).orderCounter = s.orderCounter := by simp only [State.mapBays]
@[simp] theorem history_mapBays {f : Bay → Bay} : (s.mapBays f).history = s.history := by simp only [State.mapBays]
@[simp] theorem wrapped_mapBays {f : Bay → Bay} : (s.mapBays f).wrapped = s.wrapped := by simp only [State.mapBays]
@[simp] theorem dock_mapBays {f : Bay → Bay} : (s.mapBays f).dock = s.dock := by simp only [State.mapBays]
@[simp] theorem reply_mapBays {f : Bay → Bay} : (s.mapBays f).reply = s.reply := by simp only [State.mapBays]
@[simp] theorem port_mapBays {f : Bay → Bay} : (s.mapBays f).port = s.port := by simp only [State.mapBays]
@[simp] theorem draws_mapBays {f : Bay → Bay} : (s.mapBays f).draws = s.draws := by simp only [State.mapBays]
@[simp] theorem pending_mapBays {f : Bay → Bay} : (s.mapBays f).pending = s.pending := by simp only [State.mapBays]

/-! ## Updates of one record of a container -/

@[simp] theorem modRecord_eq_modBay {f : ContainerRec → ContainerRec} :
    s.modRecord c f = s.modBay c fun b => { b with record := f b.record } := rfl

@[simp] theorem modColumn_eq_modBay {f : Column → Column} :
    s.modColumn c f = s.modBay c fun b => { b with column := f b.column } := rfl

@[simp] theorem modHatch_eq_modBay {f : Hatch → Hatch} :
    s.modHatch c f = s.modBay c fun b => { b with hatch := f b.hatch } := rfl

@[simp] theorem modEst_eq_modBay {f : Estimate → Estimate} :
    s.modEst c f = s.modBay c fun b => { b with est := f b.est } := rfl

@[simp] theorem modHold_eq_modBay {f : Hold → Hold} :
    s.modHold c f = s.modBay c fun b => { b with hold := f b.hold } := rfl

@[simp] theorem setDisplay_eq_modBay {r : Option DenialReason} :
    s.setDisplay c r = s.modBay c fun b => { b with display := r } := rfl

/-! ## Attention items and bus flags -/

@[simp] theorem bays_raise {i : Item} : (raise i s).bays = s.bays := rfl
@[simp] theorem clock_raise {i : Item} : (raise i s).clock = s.clock := rfl
@[simp] theorem settings_raise {i : Item} : (raise i s).settings = s.settings := rfl
@[simp] theorem bus_raise {i : Item} : (raise i s).bus = s.bus := rfl
@[simp] theorem cards_raise {i : Item} : (raise i s).cards = s.cards := rfl
@[simp] theorem cardStorage_raise {i : Item} : (raise i s).cardStorage = s.cardStorage := rfl
@[simp] theorem openCards_raise {i : Item} : (raise i s).openCards = s.openCards := rfl
@[simp] theorem denials_raise {i : Item} : (raise i s).denials = s.denials := rfl
@[simp] theorem sighting_raise {i : Item} : (raise i s).sighting = s.sighting := rfl
@[simp] theorem log_raise {i : Item} : (raise i s).log = s.log := rfl
@[simp] theorem reserved_raise {i : Item} : (raise i s).reserved = s.reserved := rfl
@[simp] theorem nextSequence_raise {i : Item} : (raise i s).nextSequence = s.nextSequence := rfl
@[simp] theorem orders_raise {i : Item} : (raise i s).orders = s.orders := rfl
@[simp] theorem orderCounter_raise {i : Item} : (raise i s).orderCounter = s.orderCounter := rfl
@[simp] theorem history_raise {i : Item} : (raise i s).history = s.history := rfl
@[simp] theorem wrapped_raise {i : Item} : (raise i s).wrapped = s.wrapped := rfl
@[simp] theorem dock_raise {i : Item} : (raise i s).dock = s.dock := rfl
@[simp] theorem reply_raise {i : Item} : (raise i s).reply = s.reply := rfl
@[simp] theorem draws_raise {i : Item} : (raise i s).draws = s.draws := rfl
@[simp] theorem pending_raise {i : Item} : (raise i s).pending = s.pending := rfl
@[simp] theorem bay_raise {i : Item} : (raise i s).bay c = s.bay c := rfl

@[simp] theorem frame_followLine {p : Port} : (followLine p).frame = p.frame := by
  cases h : p.line <;> cases hc : attentionCondition p <;> simp [followLine, h, hc]

@[simp] theorem summary_followLine {p : Port} : (followLine p).summary = p.summary := by
  cases h : p.line <;> cases hc : attentionCondition p <;> simp [followLine, h, hc]

@[simp] theorem discarded_followLine {p : Port} : (followLine p).discarded = p.discarded := by
  cases h : p.line <;> cases hc : attentionCondition p <;> simp [followLine, h, hc]

@[simp] theorem carrying_followLine {p : Port} : (followLine p).carrying = p.carrying := by
  cases h : p.line <;> cases hc : attentionCondition p <;> simp [followLine, h, hc]

@[simp] theorem waiting_followLine {p : Port} : (followLine p).waiting = p.waiting := by
  cases h : p.line <;> cases hc : attentionCondition p <;> simp [followLine, h, hc]

@[simp] theorem items_followLine {p : Port} : (followLine p).items = p.items := by
  cases h : p.line <;> cases hc : attentionCondition p <;> simp [followLine, h, hc]

@[simp] theorem mask_followLine {p : Port} : (followLine p).mask = p.mask := by
  cases h : p.line <;> cases hc : attentionCondition p <;> simp [followLine, h, hc]

@[simp] theorem port_frame_raise {i : Item} : (raise i s).port.frame = s.port.frame := by simp [raise]
@[simp] theorem port_summary_raise {i : Item} : (raise i s).port.summary = s.port.summary := by simp [raise]
@[simp] theorem port_discarded_raise {i : Item} : (raise i s).port.discarded = s.port.discarded := by simp [raise]
@[simp] theorem port_carrying_raise {i : Item} : (raise i s).port.carrying = s.port.carrying := by simp [raise]
@[simp] theorem port_waiting_raise {i : Item} : (raise i s).port.waiting = s.port.waiting := by simp [raise]
@[simp] theorem port_mask_raise {i : Item} : (raise i s).port.mask = s.port.mask := by simp [raise]

@[simp] theorem bays_setBusFlag {f : BusFlag} : (setBusFlag f s).bays = s.bays := rfl
@[simp] theorem clock_setBusFlag {f : BusFlag} : (setBusFlag f s).clock = s.clock := rfl
@[simp] theorem settings_setBusFlag {f : BusFlag} : (setBusFlag f s).settings = s.settings := rfl
@[simp] theorem cards_setBusFlag {f : BusFlag} : (setBusFlag f s).cards = s.cards := rfl
@[simp] theorem cardStorage_setBusFlag {f : BusFlag} : (setBusFlag f s).cardStorage = s.cardStorage := rfl
@[simp] theorem openCards_setBusFlag {f : BusFlag} : (setBusFlag f s).openCards = s.openCards := rfl
@[simp] theorem denials_setBusFlag {f : BusFlag} : (setBusFlag f s).denials = s.denials := rfl
@[simp] theorem sighting_setBusFlag {f : BusFlag} : (setBusFlag f s).sighting = s.sighting := rfl
@[simp] theorem log_setBusFlag {f : BusFlag} : (setBusFlag f s).log = s.log := rfl
@[simp] theorem reserved_setBusFlag {f : BusFlag} : (setBusFlag f s).reserved = s.reserved := rfl
@[simp] theorem nextSequence_setBusFlag {f : BusFlag} : (setBusFlag f s).nextSequence = s.nextSequence := rfl
@[simp] theorem orders_setBusFlag {f : BusFlag} : (setBusFlag f s).orders = s.orders := rfl
@[simp] theorem orderCounter_setBusFlag {f : BusFlag} : (setBusFlag f s).orderCounter = s.orderCounter := rfl
@[simp] theorem history_setBusFlag {f : BusFlag} : (setBusFlag f s).history = s.history := rfl
@[simp] theorem wrapped_setBusFlag {f : BusFlag} : (setBusFlag f s).wrapped = s.wrapped := rfl
@[simp] theorem dock_setBusFlag {f : BusFlag} : (setBusFlag f s).dock = s.dock := rfl
@[simp] theorem reply_setBusFlag {f : BusFlag} : (setBusFlag f s).reply = s.reply := rfl
@[simp] theorem port_setBusFlag {f : BusFlag} : (setBusFlag f s).port = s.port := rfl
@[simp] theorem draws_setBusFlag {f : BusFlag} : (setBusFlag f s).draws = s.draws := rfl
@[simp] theorem pending_setBusFlag {f : BusFlag} : (setBusFlag f s).pending = s.pending := rfl
@[simp] theorem bay_setBusFlag {f : BusFlag} : (setBusFlag f s).bay c = s.bay c := rfl
@[simp] theorem bus_state_setBusFlag {f : BusFlag} : (setBusFlag f s).bus.state = s.bus.state := rfl
@[simp] theorem bus_target_setBusFlag {f : BusFlag} : (setBusFlag f s).bus.target = s.bus.target := rfl
@[simp] theorem bus_counter_setBusFlag {f : BusFlag} : (setBusFlag f s).bus.counter = s.bus.counter := rfl
@[simp] theorem bus_firstWake_setBusFlag {f : BusFlag} : (setBusFlag f s).bus.firstWake = s.bus.firstWake := rfl
@[simp] theorem bus_qualifier_setBusFlag {f : BusFlag} : (setBusFlag f s).bus.qualifier = s.bus.qualifier := rfl
@[simp] theorem bus_tInact_setBusFlag {f : BusFlag} : (setBusFlag f s).bus.tInact = s.bus.tInact := rfl
@[simp] theorem bus_stuck_setBusFlag {f : BusFlag} : (setBusFlag f s).bus.stuck = s.bus.stuck := rfl
@[simp] theorem bus_level_setBusFlag {f : BusFlag} : (setBusFlag f s).bus.level = s.bus.level := rfl
@[simp] theorem bus_heldTf_setBusFlag {f : BusFlag} : (setBusFlag f s).bus.heldTf = s.bus.heldTf := rfl
@[simp] theorem bus_slots_setBusFlag {f : BusFlag} : (setBusFlag f s).bus.slots = s.bus.slots := rfl

end Sys2Proof.Machine
end

