-- ==== Sys2Proof/Laws/Bus.lean ====
section
/-! SUPPORT. What the operations of the bus can do: which fields the start of a slot, of a cycle, and the entry to
Quiet reach. -/

namespace Sys2Proof.Machine

open Sys2Proof

variable {s : State} {c d : Box}

/-! ## Containers -/

theorem mem_allBoxes : c ∈ allBoxes :=
  List.mem_finRange c

theorem mem_activeBoxes : c ∈ activeBoxes s ↔ (s.bay c).cycleActive = true := by
  simp [activeBoxes, mem_allBoxes]

/-- No container has an active cycle where the list of those that have is empty. -/
theorem activeBoxes_isEmpty : (activeBoxes s).isEmpty = true ↔ ∀ c, (s.bay c).hatch.cycle = none := by
  simp [activeBoxes, List.isEmpty_iff, List.filter_eq_nil_iff, mem_allBoxes, Bay.cycleActive]

/-! ## Slots and cycles -/

/-- The start of a slot changes the records of containers at most. -/
theorem startSlot_frame : ∃ b, startSlot s = { s with bays := b } := by
  unfold startSlot
  split
  · dsimp only
    split <;> exact ⟨_, rfl⟩
  · exact ⟨s.bays, rfl⟩
  · exact ⟨s.bays, rfl⟩

@[simp] theorem bus_startSlot : (startSlot s).bus = s.bus := by
  obtain ⟨b, h⟩ := startSlot_frame (s := s)
  rw [h]

/-- The start of a slot reaches no container but that of the slot. -/
theorem bay_startSlot_ne (h : s.bus.slots.head? ≠ some (some d)) : (startSlot s).bay d = s.bay d := by
  unfold startSlot
  split
  · rename_i c rest e
    have hd : d ≠ c := fun hc => h (by rw [e, hc]; rfl)
    dsimp only
    split <;> simp [hd]
  · rfl
  · rfl

/-- A cycle start changes the counter, the slot list and the records of containers at most. -/
theorem startCycle_frame : ∃ b, startCycle s = { s with
    bays := b
    bus := { s.bus with counter := (s.bus.counter + 1) % 64, slots := slotList s } } := by
  unfold startCycle
  obtain ⟨b, h⟩ := startSlot_frame
  exact ⟨b, h⟩

/-- A cycle has a slot for every present column, and 8 slots at least. -/
theorem mem_slotList : some c ∈ slotList s ↔ (s.bay c).record.config.present = true := by
  simp [slotList, mem_allBoxes, List.mem_replicate]

theorem length_slotList_ge : 8 ≤ (slotList s).length := by
  simp only [slotList, List.length_append, List.length_map, List.length_replicate]
  omega

/-- What follows a slot changes the bus and the records of containers at most. -/
theorem nextSlot_frame : ∃ b u, nextSlot s = { s with bays := b, bus := u } := by
  unfold nextSlot
  split
  · split
    · obtain ⟨b, h⟩ := startCycle_frame (s := s)
      exact ⟨b, _, h⟩
    · obtain ⟨b, h⟩ := startSlot_frame
      exact ⟨b, _, h⟩
  · exact ⟨s.bays, _, rfl⟩

/-- The bus keeps its state through the end of a slot. -/
@[simp] theorem bus_state_nextSlot : (nextSlot s).bus.state = s.bus.state := by
  unfold nextSlot
  split
  · split
    · obtain ⟨b, h⟩ := startCycle_frame (s := s)
      rw [h]
    · simp
  · rfl

/-! ## Entry to Quiet -/

/-- The stop of polling leaves the container record, the estimate record and the hold record. -/
theorem stopPollingBay_keeps {b : Bay} :
    (stopPollingBay b).record = b.record ∧ (stopPollingBay b).est = b.est ∧
    (stopPollingBay b).hold = b.hold ∧ (stopPollingBay b).hatch.cycle = b.hatch.cycle :=
  ⟨rfl, rfl, rfl, rfl⟩

/-- No T_cl runs after polling has stopped. -/
theorem stopPollingBay_demand {b : Bay} {n : Nat} :
    (stopPollingBay b).hatch.demand ≠ some (.running n) := by
  simp only [stopPollingBay]
  intro h
  obtain ⟨t, -, ht⟩ := Option.map_eq_some_iff.1 h
  cases t <;> cases ht

@[simp] theorem bay_enterQuiet : (enterQuiet s).bay c = stopPollingBay (s.bay c) :=
  (bay_of_bays_eq (s := s.mapBays stopPollingBay) (by simp only [enterQuiet])).trans bay_mapBays

/-- A change at every container changes the records of containers at most. -/
theorem mapBays_frame {f : Bay → Bay} : ∃ b, s.mapBays f = { s with bays := b } :=
  ⟨_, by rw [State.mapBays]⟩

/-- The entry to Quiet changes the bus and the records of containers at most. -/
theorem enterQuiet_frame : ∃ b u, enterQuiet s = { s with bays := b, bus := u } := by
  obtain ⟨b, h⟩ := mapBays_frame (s := s) (f := stopPollingBay)
  rw [enterQuiet, h]
  exact ⟨b, _, rfl⟩

@[simp] theorem bus_state_enterQuiet : (enterQuiet s).bus.state = .quiet := by
  simp only [enterQuiet]

end Sys2Proof.Machine
end

