-- ==== Sys2Proof/Laws/Orders.lean ====
section
/-! SUPPORT. What the operations of the Order Manager can do: which order a container has, what a history append
and the end of an order leave alone, and the orders of the free order. -/

namespace Sys2Proof.Machine

open Sys2Proof

variable {s : State} {c : Box} {o : Order}

/-! ## The order of a container -/

theorem orderOf_eq_none : s.orderOf c = none ↔ ∀ o ∈ s.orders, o.container ≠ c := by
  simp [State.orderOf]

theorem mem_of_orderOf (h : s.orderOf c = some o) : o ∈ s.orders ∧ o.container = c :=
  ⟨List.mem_of_find?_eq_some h, by simpa using List.find?_some h⟩

theorem orderOf_congr {t : State} (h : t.orders = s.orders) : t.orderOf c = s.orderOf c := by
  simp [State.orderOf, h]

@[simp] theorem bay_modOrder {d : Box} {f : Order → Order} : (s.modOrder c f).bay d = s.bay d := rfl

@[simp] theorem length_modOrder {f : Order → Order} : (s.modOrder c f).orders.length = s.orders.length := by
  simp [State.modOrder]

/-- A change of an order that leaves its container alone leaves the containers of the list alone. -/
theorem containers_modOrder {f : Order → Order} (h : ∀ o, (f o).container = o.container) :
    (s.modOrder c f).orders.map Order.container = s.orders.map Order.container := by
  simp only [State.modOrder, List.map_map]
  refine List.map_congr_left fun o _ => ?_
  by_cases hc : o.container = c <;> simp [hc, h]

/-! ## Creation, evaluation and escalation -/

/-- An order request changes the list and the counter at most. -/
theorem requestOrder_frame {priority : Nat} {unverified : Bool} : ∃ l n,
    requestOrder c priority unverified s = { s with orders := l, orderCounter := n } := by
  unfold requestOrder
  split
  · exact ⟨s.orders, s.orderCounter, rfl⟩
  · exact ⟨_, _, rfl⟩

/-! ## History and the end of an order -/

/-- An append changes the history, Wrapped and, by HistoryNew, the port at most. -/
theorem appendHistory_frame {e : HistoryEntry} : ∃ h w p,
    appendHistory e s = { s with history := h, wrapped := w, port := p } := by
  unfold appendHistory
  by_cases hl : 64 ≤ s.history.length
  · by_cases hw : s.wrapped = true
    · exact ⟨s.history.tail ++ [e], true, s.port, by simp [hl, hw]⟩
    · exact ⟨s.history.tail ++ [e], true, (raise .historyNew s).port, by simp [hl, hw, raise]⟩
  · by_cases he : s.history.isEmpty = true
    · exact ⟨s.history ++ [e], s.wrapped, (raise .historyNew s).port, by simp [hl, he, raise]⟩
    · exact ⟨s.history ++ [e], s.wrapped, s.port, by simp [hl, he]⟩

@[simp] theorem orders_appendHistory {e : HistoryEntry} : (appendHistory e s).orders = s.orders := by
  obtain ⟨_, _, _, h⟩ := appendHistory_frame (s := s) (e := e)
  rw [h]

@[simp] theorem bays_appendHistory {e : HistoryEntry} : (appendHistory e s).bays = s.bays := by
  obtain ⟨_, _, _, h⟩ := appendHistory_frame (s := s) (e := e)
  rw [h]

/-- A container without an order has nothing to finish. -/
theorem finishOrder_none {r : OrderOutcome} {cause : Option FailCause} {m : Option Nat}
    (h : s.orderOf c = none) : finishOrder c r cause m s = s := by
  simp [finishOrder, h]

/-- The end of an order changes the list, the history, Wrapped and the port at most. -/
theorem finishOrder_frame {r : OrderOutcome} {cause : Option FailCause} {m : Option Nat} : ∃ l h w p,
    finishOrder c r cause m s = { s with orders := l, history := h, wrapped := w, port := p } := by
  unfold finishOrder
  split
  · exact ⟨s.orders, s.history, s.wrapped, s.port, rfl⟩
  · obtain ⟨h, w, p, e⟩ := appendHistory_frame
    exact ⟨_, h, w, p, e⟩

/-- The orders of the other containers stay, and the container has none left. -/
theorem orders_finishOrder {r : OrderOutcome} {cause : Option FailCause} {m : Option Nat} :
    (finishOrder c r cause m s).orders = s.orders.filter fun p => decide (p.container ≠ c) := by
  unfold finishOrder
  split
  · rename_i h
    exact (List.filter_eq_self.2 fun o ho => by simpa using orderOf_eq_none.1 h o ho).symm
  · simp

/-- A return changes the list, the history, Wrapped and the port at most. -/
theorem returnOrder_frame : ∃ l h w p,
    returnOrder c s = { s with orders := l, history := h, wrapped := w, port := p } := by
  unfold returnOrder
  split
  · exact ⟨s.orders, s.history, s.wrapped, s.port, rfl⟩
  · split
    · exact finishOrder_frame
    · exact ⟨_, s.history, s.wrapped, s.port, rfl⟩

/-- An unsuccessful attempt changes the list, the history, Wrapped and the port at most. -/
theorem failAttempt_frame {cause : FailCause} : ∃ l h w p,
    failAttempt c cause s = { s with orders := l, history := h, wrapped := w, port := p } := by
  unfold failAttempt
  dsimp only
  split
  · exact ⟨_, s.history, s.wrapped, s.port, rfl⟩
  · split
    · obtain ⟨l, h, w, p, e⟩ := finishOrder_frame
      exact ⟨l, h, w, p, e⟩
    · obtain ⟨l, h, w, p, e⟩ := returnOrder_frame
      exact ⟨l, h, w, p, e⟩

/-! ## Rank and offers -/

/-- The ranked list has the members of the list. -/
theorem mem_ranked {l : List Order} : o ∈ ranked l ↔ o ∈ l := by
  simp only [ranked, List.mem_append, List.mem_filter, decide_eq_true_eq, beq_iff_eq]
  constructor
  · rintro (((⟨h, -⟩ | ⟨h, -⟩) | ⟨h, -⟩) | ⟨h, -⟩) <;> exact h
  · intro h
    have : 3 ≤ o.priority ∨ o.priority = 2 ∨ o.priority = 1 ∨ o.priority = 0 := by omega
    tauto

/-- An offer is of at most 8 orders. -/
theorem length_offerChoice_le {f : BitVec 8} : (offerChoice s f).length ≤ 8 := by
  simp only [offerChoice, List.length_map, List.length_take]
  omega

/-! ## Free orders -/

theorem insertByKey_perm {n : Nat} : ∀ l : List Box, (insertByKey n c l).Perm (c :: l)
  | [] => .refl _
  | d :: rest => by
    unfold insertByKey
    split
    · exact .refl _
    · exact ((insertByKey_perm rest).cons d).trans (.swap c d rest)

/-- The free order takes each container as often as it is given. -/
theorem freeOrder_perm {n : Nat} : ∀ l : List Box, (freeOrder n l).Perm l
  | [] => .refl _
  | c :: rest => (insertByKey_perm (c := c) (freeOrder n rest)).trans ((freeOrder_perm rest).cons c)

theorem mem_freeOrder {n : Nat} {l : List Box} : c ∈ freeOrder n l ↔ c ∈ l :=
  (freeOrder_perm l).mem_iff

end Sys2Proof.Machine
end

