-- ==== Sys2Proof/Laws/Estimate.lean ====
section
/-! SUPPORT. What the operations of the Fill Estimator can do: which fields an evaluation and a deposit volume
reach, and the bounds of the arithmetic of a correction. -/

namespace Sys2Proof.Machine

open Sys2Proof

variable {s : State} {c d : Box}

/-! ## Evaluation and deposit volume -/

/-- An evaluation changes the close flag of its container, the order list and the number counter at most. -/
theorem evaluate_frame : ∃ flag l n, evaluate c s =
    { s.modBay c (fun b => { b with est := { b.est with closeFlag := flag } }) with
      orders := l, orderCounter := n } := by
  unfold evaluate
  dsimp only
  split
  · split
    · obtain ⟨l, n, h⟩ := requestOrder_frame
      exact ⟨_, l, n, h⟩
    · exact ⟨_, s.orders, s.orderCounter, rfl⟩
  · split
    · exact ⟨_, _, s.orderCounter, rfl⟩
    · exact ⟨_, s.orders, s.orderCounter, rfl⟩

theorem bay_evaluate_ne (h : d ≠ c) : (evaluate c s).bay d = s.bay d := by
  obtain ⟨flag, l, n, e⟩ := evaluate_frame (s := s) (c := c)
  exact (bay_of_bays_eq (s := s.modBay c fun b => { b with est := { b.est with closeFlag := flag } })
    (by rw [e])).trans (bay_modBay_ne h)

/-- An evaluation leaves every record of its container but the estimate record. -/
theorem bay_evaluate : ∃ flag, (evaluate c s).bay c =
    { s.bay c with est := { (s.bay c).est with closeFlag := flag } } := by
  obtain ⟨flag, l, n, e⟩ := evaluate_frame (s := s) (c := c)
  exact ⟨flag, (bay_of_bays_eq (s := s.modBay c fun b => { b with est := { b.est with closeFlag := flag } })
    (by rw [e])).trans bay_modBay_self⟩

/-- A deposit volume changes the estimate record of its container, the order list and the number counter
at most. -/
theorem depositVolume_frame : ∃ flag l n, depositVolume c s =
    { s.modBay c (fun b => { b with
        est := { addVolume (s.bay c).record.config b.est with closeFlag := flag } }) with
      orders := l, orderCounter := n } := by
  obtain ⟨flag, l, n, e⟩ := evaluate_frame (s := s.modEst c (addVolume (s.bay c).record.config)) (c := c)
  refine ⟨flag, l, n, ?_⟩
  rw [depositVolume, e]
  simp [State.modBay, State.bay]

theorem bay_depositVolume_ne (h : d ≠ c) : (depositVolume c s).bay d = s.bay d := by
  obtain ⟨flag, l, n, e⟩ := depositVolume_frame (s := s) (c := c)
  exact (bay_of_bays_eq (s := s.modBay c fun b => { b with
      est := { addVolume (s.bay c).record.config b.est with closeFlag := flag } })
    (by rw [e])).trans (bay_modBay_ne h)

/-! ## The arithmetic of a correction -/

/-- A deposit volume leaves E within its ceiling. -/
theorem fill_addVolume_le {k : ContainerConfig} {e : Estimate} : (addVolume k e).fill ≤ ceiling k := by
  simp [addVolume]

theorem rem_addVolume_lt {k : ContainerConfig} {e : Estimate} : (addVolume k e).rem < 256 :=
  Nat.mod_lt _ (by decide)

/-- A height gives at most the capacity. -/
theorem toLitres_le {k : ContainerConfig} {h : Nat} (hk : 0 < k.depth) : toLitres k h ≤ k.capacity := by
  unfold toLitres
  refine Nat.le_of_lt_succ (Nat.div_lt_of_lt_mul ?_)
  have h1 : min h k.depth * k.capacity ≤ k.depth * k.capacity := Nat.mul_le_mul_right _ (Nat.min_le_right ..)
  have h2 : k.depth / 2 < k.depth := Nat.div_lt_self hk (by decide)
  calc min h k.depth * k.capacity + k.depth / 2 < k.depth * k.capacity + k.depth := by omega
    _ = k.depth * (k.capacity + 1) := by ring

theorem bump_le {top a : Nat} : bump top a ≤ top :=
  Nat.min_le_left ..

/-- A limited step stays within the limit. -/
theorem limitStep_bounds {limit : Nat} {step : Int} :
    -(limit : Int) ≤ limitStep limit step ∧ limitStep limit step ≤ limit := by
  unfold limitStep
  omega

/-- A step within the limit is not changed. -/
theorem limitStep_of_le {limit : Nat} {step : Int} (h₁ : -(limit : Int) ≤ step) (h₂ : step ≤ limit) :
    limitStep limit step = step := by
  unfold limitStep
  omega

/-- The adjustment leaves E within its ceiling. -/
theorem fill_stepAdjust_le {k : ContainerConfig} {e : Estimate} : (stepAdjust k e).fill ≤ ceiling k := by
  simp [stepAdjust]

/-- A correction leaves the window empty and no adjustment pending. -/
theorem correctRecord_clears {k : ContainerConfig} {counts : Bool} {e : Estimate} :
    (correctRecord k counts e).window = [] ∧ (correctRecord k counts e).adjust = 0 := by
  have hw : ∀ m e, (stepPairing m e).window = [] := fun m _ => by cases m <;> rfl
  have ha : ∀ m e, (stepPairing m e).adjust = e.adjust := fun m _ => by cases m <;> rfl
  have hc : ∀ m e, (stepCounters m e).adjust = e.adjust := fun m _ => by
    unfold stepCounters; split
    · rfl
    · split <;> rfl
  exact ⟨hw _ _, (ha _ _).trans (hc _ _)⟩

/-! ## The reading window -/

theorem placeReading_perm {r : Reading} : ∀ w : List Reading, (placeReading r w).Perm (r :: w)
  | [] => .refl _
  | x :: rest => by
    unfold placeReading
    split
    · exact ((placeReading_perm rest).cons x).trans (.swap r x rest)
    · exact .refl _

/-- A reading placed in an ordered window stands after the values up to its own and before the higher ones; the
others keep their places. -/
theorem placeReading_split {r : Reading} : ∀ w : List Reading, w.Pairwise (fun a b => a.value ≤ b.value) →
    ∃ before after, before ++ after = w ∧ placeReading r w = before ++ r :: after ∧
      (∀ x ∈ before, x.value ≤ r.value) ∧ ∀ x ∈ after, r.value < x.value
  | [], _ => ⟨[], [], by simp [placeReading]⟩
  | y :: rest, h => by
    rw [List.pairwise_cons] at h
    by_cases hy : y.value ≤ r.value
    · obtain ⟨before, after, rfl, hp, hb, ha⟩ := placeReading_split rest h.2
      exact ⟨y :: before, after, rfl, by simp [placeReading, hy, hp], by simpa [hy] using hb, ha⟩
    · refine ⟨[], y :: rest, rfl, by simp [placeReading, hy], by simp, fun x hx => ?_⟩
      rcases List.mem_cons.1 hx with rfl | hx
      · omega
      · have := h.1 x hx
        omega

/-- A filed reading makes the window one longer than the room made for it. -/
theorem length_fileReading {m : Nat} {w : List Reading} :
    (fileReading m w).length = (makeRoom w).length + 1 := by
  simpa [fileReading] using (placeReading_perm (r := ⟨m, (makeRoom w).length + 1⟩) (makeRoom w)).length_eq

end Sys2Proof.Machine
end

