-- ==== Sys2Proof/Laws/Cycle.lean ====
section
/-! SUPPORT. What the operations over cards, the deposit log and the hatch cycles can do: which fields a settlement
reaches, and the steps of the end of a cycle. -/

namespace Sys2Proof.Machine

open Sys2Proof

variable {s : State} {c d : Box}

/-! ## Cards -/

theorem mem_of_cardOf {n : Nat} {k : CardRecord} (h : s.cardOf n = some k) : k ∈ s.cards ∧ k.number = n :=
  ⟨List.mem_of_find?_eq_some h, by simpa using List.find?_some h⟩

theorem cardOf_eq_none {n : Nat} : s.cardOf n = none ↔ ∀ k ∈ s.cards, k.number ≠ n := by
  simp [State.cardOf]

/-- A change of a card that leaves its number alone leaves the numbers of the list alone. -/
theorem numbers_modCard {n : Nat} {f : CardRecord → CardRecord} (h : ∀ k, (f k).number = k.number) :
    (s.modCard n f).cards.map CardRecord.number = s.cards.map CardRecord.number := by
  simp only [State.modCard, List.map_map]
  refine List.map_congr_left fun k _ => ?_
  by_cases hk : k.number = n <;> simp [hk, h]

theorem insertCardRecord_perm {k : CardRecord} : ∀ l, (insertCardRecord k l).Perm (k :: l)
  | [] => .refl _
  | x :: rest => by
    unfold insertCardRecord
    split
    · exact ((insertCardRecord_perm rest).cons x).trans (.swap k x rest)
    · exact .refl _

theorem length_insertCardRecord {k : CardRecord} {l : List CardRecord} :
    (insertCardRecord k l).length = l.length + 1 := by
  simpa using (insertCardRecord_perm (k := k) l).length_eq

/-! ## The deposit log -/

/-- An append to the log changes the log, the next sequence number and, by LogHigh, the port at most. -/
theorem appendLog_frame {r : LogRecord} : ∃ p, appendLog r s = { s with
    log := s.log ++ [r], nextSequence := (s.nextSequence + 1) % 4294967296, port := p } := by
  unfold appendLog
  dsimp only
  split
  · exact ⟨_, rfl⟩
  · exact ⟨s.port, rfl⟩

/-- A settlement changes the card list, the reserved slots, the log, the next sequence number and the port at
most; it appends one record. -/
theorem settle_frame {o : CycleOutcome} {k : Cycle} : ∃ cards r p, settle c o k s = { s with
    cards := cards, reserved := s.reserved - 1, log := s.log ++ [r]
    nextSequence := (s.nextSequence + 1) % 4294967296, port := p } := by
  unfold settle
  dsimp only
  split
  · obtain ⟨p, h⟩ := appendLog_frame
    exact ⟨s.cards, _, p, h⟩
  · obtain ⟨p, h⟩ := appendLog_frame
    exact ⟨_, _, p, h⟩

@[simp] theorem bay_settle {o : CycleOutcome} {k : Cycle} : (settle c o k s).bay d = s.bay d := by
  obtain ⟨_, _, _, h⟩ := settle_frame (s := s) (c := c) (o := o) (k := k)
  rw [h]; rfl

/-! ## The steps of the end of a cycle -/

theorem endCycle_none {o : CycleOutcome} {cause : EndCause} (h : (s.bay c).hatch.cycle = none) :
    endCycle c o cause s = s := by
  simp [endCycle, h]

theorem endCycle_some {o : CycleOutcome} {cause : EndCause} {k : Cycle}
    (h : (s.bay c).hatch.cycle = some k) :
    endCycle c o cause s = (reportEndToBus (demandAtEnd c cause (volumeAtEnd c o k
      (settle c o k (dropCycle c k s))))).modHold c (endQuiescence cause) := by
  simp [endCycle, h]

/-- The record of the cycle and its timers go. -/
@[simp] theorem bay_dropCycle {k : Cycle} : (dropCycle c k s).bay c =
    { s.bay c with hatch := { (s.bay c).hatch with cycle := none, tOw := none, tDep := none } } :=
  (bay_of_bays_eq (s := s.modHatch c fun h => { h with cycle := none, tOw := none, tDep := none }) rfl).trans
    bay_modBay_self

/-- A started close demand stands, and one that stood is not started again. -/
theorem demand_startDemand : ((startDemand c s).bay c).hatch.demand =
    match (s.bay c).hatch.demand with
    | some t => some t
    | none => if (s.bay c).column.lost || !isPolling s.bus then some .held
        else some (.running s.settings.tCl) := by
  cases h : (s.bay c).hatch.demand <;> simp [startDemand, h]

theorem demand_startDemand_ne_none : ((startDemand c s).bay c).hatch.demand ≠ none := by
  rw [demand_startDemand]
  split
  · exact Option.some_ne_none _
  · split <;> exact Option.some_ne_none _

/-- The start of a close demand reaches its own container only. -/
theorem bay_startDemand_ne (h : d ≠ c) : (startDemand c s).bay d = s.bay d :=
  bay_modBay_ne h

/-- The report of a cycle's end to the bus enters Quiet, or changes nothing. -/
theorem reportEndToBus_cases : reportEndToBus s = enterQuiet s ∧ s.bus.state = .draining ∧
      (∀ c, (s.bay c).hatch.cycle = none) ∨ reportEndToBus s = s := by
  unfold reportEndToBus
  split
  · rename_i h
    exact .inl ⟨rfl, h.1, activeBoxes_isEmpty.1 h.2⟩
  · exact .inr rfl

/-- The hold record at the end of a cycle: T_q is stopped where a hold is requested, and the sources stay. -/
theorem endQuiescence_keeps {cause : EndCause} {h : Hold} :
    (endQuiescence cause h).service = h.service ∧ (endQuiescence cause h).emptying = h.emptying ∧
    (endQuiescence cause h).orphan = h.orphan ∧ (endQuiescence cause h).reported = h.reported := by
  unfold endQuiescence
  split <;> exact ⟨rfl, rfl, rfl, rfl⟩

/-! ## Drum turns -/

/-- At most 15 turns are taken from one uplink. -/
theorem turnsOf_le {b : Option Nat} {returned : Bool} {n : Nat} : turnsOf b returned n ≤ 15 := by
  unfold turnsOf
  repeat' split
  all_goals omega

/-- A turn is the deposit of a cycle in Granted or Opened, or stray. -/
theorem takeTurn_cases : (∃ k, (s.bay c).hatch.cycle = some k ∧ k.phase ≠ .deposited ∧
      takeTurn c s = confirmDeposit c k s) ∨ takeTurn c s = strayTurn c s := by
  unfold takeTurn
  split
  · exact .inr rfl
  · rename_i k h
    split
    · exact .inr rfl
    · rename_i hp
      exact .inl ⟨k, h, hp, rfl⟩

end Sys2Proof.Machine
end

