-- ==== Sys2Proof/Laws/Frame.lean ====
section
/-! SUPPORT. What the reading and writing of parameter bytes can do: each value is read back from its own bytes, at
the place where a command carries it. -/

namespace Sys2Proof.Machine

open Sys2Proof

/-! ## Values -/

theorem half_of_bytes {v : Half} : (v.extractLsb' 8 8 ++ v.extractLsb' 0 8 : BitVec 16) = v := by
  rw [BitVec.extractLsb'_append_extractLsb'_eq_extractLsb' (by rfl)]
  simp

theorem quad_of_halves {v : Quad} : (v.extractLsb' 16 16 ++ v.extractLsb' 0 16 : BitVec 32) = v := by
  rw [BitVec.extractLsb'_append_extractLsb'_eq_extractLsb' (by rfl)]
  simp

@[simp] theorem length_halfBytes {v : Half} : (halfBytes v).length = 2 := rfl

@[simp] theorem length_quadBytes {v : Quad} : (quadBytes v).length = 4 := rfl

@[simp] theorem length_cardParamsBytes {v : CardParams} : (cardParamsBytes v).length = 6 := rfl

@[simp] theorem length_containerParamsBytes {v : ContainerParams} : (containerParamsBytes v).length = 23 := rfl

@[simp] theorem length_districtParamsBytes {v : DistrictParams} : (districtParamsBytes v).length = 48 := by
  simp [districtParamsBytes]

/-- A two-byte value is read back from its bytes. -/
theorem halfAt_halfBytes {v : Half} {rest : List Byte} : halfAt (halfBytes v ++ rest) 0 = v := by
  simpa [halfAt, halfBytes, byteAt] using half_of_bytes

/-- A four-byte value is read back from its bytes. -/
theorem quadAt_quadBytes {v : Quad} {rest : List Byte} : quadAt (quadBytes v ++ rest) 0 = v := by
  have high : halfAt (quadBytes v ++ rest) 0 = v.extractLsb' 16 16 := by
    rw [quadBytes, List.append_assoc]
    exact halfAt_halfBytes
  have low : halfAt (quadBytes v ++ rest) 2 = v.extractLsb' 0 16 :=
    halfAt_halfBytes (v := v.extractLsb' 0 16) (rest := rest)
  rw [quadAt, high, low, quad_of_halves]

/-! ## Groups of parameters -/

/-- The card fields are read back from behind the card number. -/
theorem cardParamsAt_cardParamsBytes {card : Quad} {v : CardParams} :
    cardParamsAt (quadBytes card ++ cardParamsBytes v) 4 = v := by
  simp [cardParamsAt, cardParamsBytes, halfAt, byteAt, halfBytes, half_of_bytes, quadBytes]

/-- The configuration fields are read back from behind the container number. -/
theorem containerParamsAt_containerParamsBytes {c : Byte} {v : ContainerParams} :
    containerParamsAt (c :: containerParamsBytes v) 1 = v := by
  simp [containerParamsAt, containerParamsBytes, halfAt, byteAt, halfBytes, half_of_bytes]

/-- The district settings are read back from their bytes. -/
theorem districtParamsAt_districtParamsBytes {v : DistrictParams} :
    districtParamsAt (districtParamsBytes v) 0 = v := by
  obtain ⟨_, _, ⟨⟨curfew⟩, hc⟩, ⟨⟨plans⟩, hp⟩, _, _, _, _, _, _, _⟩ := v
  match curfew, hc, plans, hp with
  | [_, _, _, _, _], _, [_, _, _, _, _, _, _, _, _, _, _, _, _, _, _, _], _ =>
    simp only [districtParamsAt, districtParamsBytes, halfAt, byteAt, halfBytes,
      DistrictParams.mk.injEq, Vector.eq_mk]
    refine ⟨rfl, half_of_bytes, ?_, ?_, rfl, half_of_bytes, rfl, rfl, rfl, rfl, half_of_bytes⟩
    · exact Array.ext (by simp) fun i _ hi => by
        simp only [List.size_toArray, List.length_cons, List.length_nil] at hi
        interval_cases i <;> simp [half_of_bytes]
    · exact Array.ext (by simp) fun i _ hi => by
        simp only [List.size_toArray, List.length_cons, List.length_nil] at hi
        interval_cases i <;> simp

end Sys2Proof.Machine
end

