-- ==== Sys2Proof/Laws/Port.lean ====
section
/-! SUPPORT. What the operations of the ports can do: the attention line, the taking of a command, its checks, the
byte layouts, the card record storage, the stuck line and the recovery from it, and the reply to a vehicle message. -/

namespace Sys2Proof.Machine

open Sys2Proof

variable {s : State} {c : Box}

/-! ## The attention line -/

/-- An item raised is set. -/
theorem items_raise {i : Item} : (raise i s).port.items = s.port.items ||| BitVec.twoPow 10 (itemBit i) := by
  simp [raise]

/-- The line moves by the condition; in Holding it stays. -/
theorem line_followLine {p : Port} : (followLine p).line =
    match p.line with
    | .released => if attentionCondition p = true then .asserted else .released
    | .asserted => if attentionCondition p = true then .asserted else .holding
    | .holding => .holding := by
  cases h : p.line <;> cases hc : attentionCondition p <;> simp [followLine, h, hc]

/-- The condition depends on the items and the mask alone. -/
theorem attentionCondition_congr {p q : Port} (hi : p.items = q.items) (hm : p.mask = q.mask) :
    attentionCondition p = attentionCondition q := by
  simp [attentionCondition, hi, hm]

@[simp] theorem attentionCondition_followLine {p : Port} :
    attentionCondition (followLine p) = attentionCondition p :=
  attentionCondition_congr (by simp) (by simp)

/-! ## Taking a command -/

theorem portFree_iff {p : Port} : portFree p = true ↔ p.carrying = none ∧ p.waiting = [] := by
  simp [portFree, List.isEmpty_iff]

/-- On a free port a command is carried out at once, with the marks of a taken command. -/
theorem takeCommand_free {i : Instr} {carry : State → Carried} (h : portFree s.port = true) :
    takeCommand i carry s = carryNow carry (noteTaken s) := by
  have : portFree (noteTaken s).port = true := h
  simp [takeCommand, this]

/-- Behind another command a command waits. -/
theorem takeCommand_busy {i : Instr} {carry : State → Carried} (h : portFree s.port = false) :
    takeCommand i carry s = { s with port := { s.port with
      discarded := false, frame := .waiting
      waiting := s.port.waiting ++ [⟨i, figuresAtTaking i s⟩] } } := by
  have : portFree (noteTaken s).port = false := h
  simp only [takeCommand, this]
  rfl

/-- No command but Read Container Status forms figures when it is taken. -/
theorem figuresAtTaking_none {i : Instr} (h : ∀ len c, i ≠ .readContainerStatus len c) :
    figuresAtTaking i s = none := by
  cases i <;> first | rfl | exact absurd rfl (h _ _)

/-- Without figures of its taking a waiting command is carried out as one that did not wait. -/
theorem carryWaiting_none {w : Waiting} (h : w.figures = none) : carryWaiting w s = carryOut w.command s := by
  simp [carryWaiting, Response.withFigures, h]

/-- The figures of the moment are those the status holds anyway. -/
@[simp] theorem withFigures_containerStatus :
    (containerStatus s c).withFigures (fillFigures (s.bay c)) = containerStatus s c := rfl

/-- Figures of the taking touch the response alone. -/
@[simp] theorem state_carryWaiting {w : Waiting} : (carryWaiting w s).state = (carryOut w.command s).state := rfl

/-- The start of a waiting command takes the first one, with none in hand, or changes nothing. -/
theorem startQueued_cases :
    (∃ w rest, s.port.carrying = none ∧ s.port.waiting = w :: rest ∧
      startQueued s = carryNow (carryWaiting w) { s with port := { s.port with waiting := rest } }) ∨
    ((s.port.carrying ≠ none ∨ s.port.waiting = []) ∧ startQueued s = s) := by
  cases hc : s.port.carrying <;> cases hw : s.port.waiting <;> simp [startQueued, hc, hw]

/-- A refused command leaves the marks of a taken command and its response, and nothing else. -/
theorem carryNow_refuse {status : Status} : carryNow (refuse status) s =
    { s with port := { s.port with carrying := some ⟨status, .nothing⟩ } } := rfl

theorem withLength_eq {len : Byte} {n : Nat} {carry : State → Carried} (h : len.toNat = n) :
    withLength len n carry s = carry s := by
  simp [withLength, h]

theorem withLength_ne {len : Byte} {n : Nat} {carry : State → Carried} (h : len.toNat ≠ n) :
    withLength len n carry s = refuse .badLength s := by
  simp [withLength, h]

/-- A byte names a container up to 31. -/
theorem boxOf_of_lt {b : Byte} (h : b.toNat < 32) : boxOf b = some ⟨b.toNat, h⟩ := by
  simp [boxOf, h]

theorem boxOf_of_ge {b : Byte} (h : 32 ≤ b.toNat) : boxOf b = none := by
  simp [boxOf, Nat.not_lt.2 h]

theorem boxOf_ofNat : boxOf (BitVec.ofNat 8 c.val) = some c := by
  have h : (BitVec.ofNat 8 c.val).toNat = c.val := by
    rw [BitVec.toNat_ofNat]
    exact Nat.mod_eq_of_lt (by have := c.isLt; omega)
  rw [boxOf_of_lt (by rw [h]; exact c.isLt)]
  exact congrArg some (Fin.ext h)

theorem withBox_some {b : Byte} {carry : Box → State → Carried} (h : boxOf b = some c) :
    withBox b carry s = carry c s := by
  simp [withBox, h]

theorem withBox_none {b : Byte} {carry : Box → State → Carried} (h : boxOf b = none) :
    withBox b carry s = refuse .notFound s := by
  simp [withBox, h]

/-! ## Layouts -/

theorem length_byte1 {n : Nat} : (byte1 n).length = 1 := rfl

theorem length_byte2 {n : Nat} : (byte2 n).length = 2 := rfl

theorem length_byte4 {n : Nat} : (byte4 n).length = 4 := rfl

theorem length_attentionWord {items : BitVec 10} : (attentionWord items).length = 2 := rfl

theorem length_stampBytes {t : Option Stamp} : (stampBytes t).length = 4 := by
  cases t <;> rfl

/-- A deposit log record takes 19 bytes. -/
theorem length_logRecordBytes {r : LogRecord} : (logRecordBytes r).length = 19 := by
  simp [logRecordBytes, length_byte1, length_byte2, length_byte4, length_stampBytes]

/-- A history entry takes 18 bytes. -/
theorem length_historyEntryBytes {e : HistoryEntry} : (historyEntryBytes e).length = 18 := by
  simp [historyEntryBytes, length_byte1, length_byte2, length_stampBytes]

/-! ## The card record storage -/

/-- What a place of the record storage holds. -/
theorem storedAt_cases {place : Nat} :
    (∃ k, s.cards[place]? = some k ∧ storedAt s place = .holds k) ∨
    (s.cards[place]? = none ∧ place < s.cardStorage.used ∧ ∃ v, storedAt s place = .left v) ∨
    (s.cards[place]? = none ∧ s.cardStorage.used ≤ place ∧ storedAt s place = .zeros) := by
  cases h : s.cards[place]? with
  | some k => exact .inl ⟨k, rfl, by simp [storedAt, h]⟩
  | none =>
    by_cases hu : place < s.cardStorage.used
    · exact .inr (.inl ⟨rfl, hu, Config.leftInPlace s.cardStorage.removals place, by simp only [storedAt, h, if_pos hu]⟩)
    · exact .inr (.inr ⟨rfl, Nat.le_of_not_lt hu, by simp only [storedAt, h, if_neg hu]⟩)

/-! ## The inlet line -/

/-- A stuck line blocks a bus that is not Blocked yet, and only while it is active. -/
theorem blocksAtStuckLine_iff {b : Bus} : blocksAtStuckLine b = true ↔ b.state ≠ .blocked ∧ b.level = .active := by
  simp [blocksAtStuckLine]

/-- A recovery leaves Blocked on an idle line for the remembered target, or changes nothing. -/
theorem recovers_cases :
    (s.bus.state = .blocked ∧ s.bus.level = .idle ∧ s.bus.target = some .active ∧
      recovers s = resumePolling .active s) ∨
    (s.bus.state = .blocked ∧ s.bus.level = .idle ∧ s.bus.target = some .quiet ∧ recovers s = enterQuiet s) ∨
    recovers s = s := by
  cases h : s.bus.state <;> cases hl : s.bus.level <;> rcases ht : s.bus.target with _ | _ | _ <;>
    simp [recovers, h, hl, ht]

/-! ## The vehicle link -/

/-- T_dock starts again for the docked id; nothing else changes. -/
theorem restartDock_frame {vid : Half} : ∃ d, restartDock vid s = { s with dock := d } := by
  unfold restartDock
  repeat' split
  all_goals exact ⟨_, rfl⟩

/-- The hold list names the containers held under the id, in ascending number. -/
theorem containers_holdList {v : Nat} : (holdList s v).map HoldEntry.container = heldBoxes s v := by
  simp [holdList, List.map_map, Function.comp_def, holdEntry]

theorem mem_heldBoxes {v : Nat} : c ∈ heldBoxes s v ↔ (s.bay c).hold.emptying = some v := by
  simp [heldBoxes, mem_allBoxes]

end Sys2Proof.Machine
end

