-- ==== Sys2Proof/WellFormed.lean ====
section
/-! DEFINITION. Which terms of `Instr` stand for an event that can occur. -/

namespace Sys2Proof

/-- UNKNOWN_COMMAND stands for a frame whose code is 36..255 (R200); every other operand may take every
value of its type, because the part itself checks it. -/
def Instr.wellFormed (i : Instr) : Bool :=
  match i with
  | .unknownCommand _ code => decide (36 ≤ code.toNat)
  | _ => true

end Sys2Proof
end

