-- ==== Sys2Proof/Tests/Slice0.lean ====
section
/-! SUPPORT. Small tests: the check of ill-formed terms, worked examples of the manual (their values are the manual's), and
for each statement with hypotheses a state and operands that meet them. -/

namespace Sys2Proof.Tests

open Sys2Proof Sys2Proof.Machine

/-! ## Helpers -/

/-- A next state with a property. -/
def next (o : Host.Outcome State Fault Refusal) (p : State → Bool) : Bool :=
  match o with
  | .next t => p t
  | .fault _ => false
  | .refused _ => false

/-- The reset state with the records of container 3 replaced. -/
def at3 (b : Bay) : State :=
  State.reset.modBay 3 fun _ => b

/-- A started Paper container at its power-on values. -/
def paper : Bay :=
  { record := { config := { present := true, fraction := .paper }, started := true } }

/-- A district with container 3 started. -/
def district : State := at3 paper

/-- An active card of plan 2. -/
def card7 : CardRecord :=
  { number := 7, household := 9, status := .active, plan := 2, clusters := 255#8, fractions := 31#8, remaining := 3 }

/-- The district with one card on a plan of 5, the clock set. -/
def carded : State :=
  { district with
    cards := [card7], cardStorage := { used := 1 }, clock := { minute := 14, week := 1, set := true }
    settings := { plans := (Vector.replicate 16 0).set 2 5 } }

/-- A hatch cycle of card 7 in Opened. -/
def cycle7 : Cycle :=
  { card := 7, household := 9, charge := 1, time := none, phase := .opened, confirmed := false }

/-- Container 3 with that cycle. -/
def cyclingBay : Bay :=
  { paper with hatch := { cycle := some cycle7, tDep := some 45, baseline := some 90 } }

/-- The district with that cycle. -/
def cycling : State :=
  { carded.modBay 3 (fun _ => cyclingBay) with openCards := [7], reserved := 1 }

/-- A Pending order of container 3. -/
def order3 : Order :=
  { number := 411, container := 3, origin := .auto, priority := 2, label := 0, oneShot := false,
    unverified := false, attempts := 0, state := .pending, abortRequested := false, vehicle := none }

/-- The district with that order. -/
def ordered : State := { carded with orders := [order3], orderCounter := 412 }

/-- Vehicle 52 docked, with that order Claimed and its hold. -/
def claimed : State :=
  { (ordered.modHold 3 fun h => { h with emptying := some 52 }) with
    dock := some ⟨52, 31#8, 120⟩, orders := [{ order3 with state := .claimed, vehicle := some 52 }] }

/-- The same after the loss of the dock. -/
def orphaned : State :=
  { (claimed.modHold 3 fun h => { h with orphan := true }) with dock := none }

/-! ## Well-formed terms -/

theorem test_known_code_is_ill_formed : (Instr.unknownCommand 0#8 5#8).wellFormed = false := by decide

theorem test_unknown_code_is_well_formed : (Instr.unknownCommand 0#8 36#8).wellFormed = true := by decide

/-! ## Worked examples of the manual -/

/-- The write of R3. -/
def clampedWrite : ContainerParams :=
  { present := 1, fraction := 1, cluster := 0, capacity := 3000, depth := 2400, drum := 60, charge := 1,
    tOrder := 65, tClose := 15, tReopen := 40, omax := 150, kmax := 6, vmin := 120, residual := 20,
    fDoubt := 9, fBlind := 5, rClean := 4, sBlind := 16 }

theorem test_dependent_fields_are_clamped :
    next (exec (.writeContainerConfig 24 3 clampedWrite) State.reset) (fun t =>
      decide ((t.bay 3).record.config.tClose = 20 ∧ (t.bay 3).record.config.tReopen = 19 ∧
        (t.bay 3).record.config.fDoubt = 9 ∧ (t.bay 3).record.config.fBlind = 9 ∧
        t.port.carrying.map Response.status = some .okClamped)) = true := by decide

/-- The Glass window of section 1.6, at a minute of the week. -/
def glassAt (set : Bool) (minute : Nat) : State :=
  { State.reset with
    clock := { minute := minute, set := set }
    settings := { curfew := (Vector.replicate 5 ⟨0, 0⟩).set 3 ⟨1320, 420⟩ } }

theorem test_night_curfew : underCurfew (glassAt true 7000) .glass = false ∧
    underCurfew (glassAt true 7500) .glass = true ∧ underCurfew (glassAt true 8650) .glass = true ∧
    underCurfew (glassAt false 7500) .glass = false := by decide

/-- The container of the examples of Chapters 6 and 7. -/
def exampleConfig : ContainerConfig :=
  { present := true, tOrder := 65, omax := 150, kmax := 6 }

theorem test_ten_deposits : (addVolume exampleConfig)^[10] { fill := 1300, bulk := 300 } =
    { fill := 2003, rem := 32, bulk := 300, volume := 600 } := by decide

theorem test_heights_in_litres : [1640, 1660, 1650, 2300, 2400, 4095].map (toLitres exampleConfig) =
    [2050, 2075, 2063, 2875, 3000, 3000] := by decide

theorem test_first_correction :
    correctRecord exampleConfig true
      { fill := 2003, rem := 32, bulk := 300, volume := 600, mPrev := some 1280
        window := ([2050, 2075, 2875, 2063]).foldl (fun w m => fileReading m w) [] } =
      { fill := 2063, rem := 32, bulk := 306, mPrev := some 2063, mLast := some 2063, fails := 1
        rateLimit := true } := by decide

theorem test_third_correction :
    correctRecord exampleConfig true
      { fill := 2565, rem := 40, bulk := 306, volume := 420, mPrev := some 2063, mLast := some 2063
        fails := 1, silent := 1, adjust := -150
        window := ([2938, 2375, 2369, 2388, 2380, 2378]).foldl (fun w m => fileReading m w) [] } =
      { fill := 2265, rem := 40, bulk := 300, mPrev := some 2378, mLast := some 2378, fails := 2
        rateLimit := true, offsetLimit := true } := by decide

theorem test_fourth_correction_is_doubtful :
    correctRecord exampleConfig true
      { fill := 2616, rem := 184, bulk := 300, volume := 300, mPrev := some 2378, mLast := some 2378
        fails := 2, window := ([2800, 2813, 2825]).foldl (fun w m => fileReading m w) [] } =
      { fill := 2766, rem := 184, bulk := 306, mPrev := some 2813, mLast := some 2813, fails := 3
        mode := .doubtful, rateLimit := true, offsetLimit := true } := by decide

theorem test_close_flag_hysteresis : closeFlagAfter exampleConfig 2813 false = true ∧
    closeFlagAfter exampleConfig 2616 true = true ∧ closeFlagAfter exampleConfig 2300 true = false := by decide

/-- An uplink of column 3. -/
def uplink3 (hatch : HatchState) (drum : Byte) : SlotRx :=
  .complete { echo := 3, hatch := hatch, drum := drum, card := none, level := none } true

/-- The slot of column 3 in progress. -/
def inSlot (s : State) : State := { s with bus := { s.bus with slots := [some 3, none] } }

theorem test_turn_is_the_deposit : next (exec (.slotEnd (uplink3 .opened 91)) (inSlot cycling)) (fun t =>
    decide ((t.bay 3).hatch.cycle.map Cycle.phase = some .deposited ∧ (t.bay 3).hatch.tDep = none ∧
      (t.bay 3).hatch.demand = some (.running 10) ∧ (t.bay 3).est.fill = 60 ∧
      (t.bay 3).hatch.stray = 0)) = true := by decide

theorem test_expiry_before_the_turn : next (exec (.tDepExpiry 3) cycling) (fun t =>
    decide ((t.bay 3).hatch.cycle = none ∧ t.openCards = [] ∧ t.reserved = 0 ∧
      t.cards.map CardRecord.remaining = [4] ∧ t.log.map LogRecord.applied = [0] ∧
      t.log.map LogRecord.outcome = [.noDeposit] ∧ t.log.map LogRecord.after = [some 4])) = true := by decide

theorem test_second_turn_is_stray : next (exec (.slotEnd (uplink3 .opened 92)) (inSlot cycling)) (fun t =>
    decide ((t.bay 3).est.fill = 120 ∧ (t.bay 3).hatch.stray = 1)) = true := by decide

theorem test_return_counts_no_turn :
    next (exec (.slotEnd (uplink3 .closed 17)) (inSlot (at3 { paper with
      record := { paper.record with fault := .columnLost }
      column := { lost := true, consecutive := 5, total := 12 }, hatch := { baseline := some 15 } }))) (fun t =>
      decide ((t.bay 3).column.lost = false ∧ (t.bay 3).column.consecutive = 0 ∧ (t.bay 3).column.total = 12 ∧
        (t.bay 3).record.fault = .none ∧ (t.bay 3).hatch.baseline = some 17 ∧ (t.bay 3).est.fill = 0)) = true := by
  decide

/-- Presentations at container 3 decided against a state. -/
def decided (s : State) (card : Nat) : DisplayCode := (decidePresentation 3 card false s).1

theorem test_decisions : decided carded 7 = .granted ∧ decided carded 8 = .denied .unknownCard ∧
    decided cycling 7 = .denied .busy ∧
    decided { carded with cards := [{ card7 with status := .lost }] } 7 = .denied .cardBlocked ∧
    decided { carded with cards := [{ card7 with remaining := 0 }] } 7 = .denied .noAllowance ∧
    decided { carded with openCards := [7] } 7 = .denied .cardInUse ∧
    decided { carded with reserved := 1024 } 7 = .denied .logFull := by decide

theorem test_grant_reserves : next (exec (.slotEnd (.complete
      { echo := 3, hatch := .closed, drum := 0, card := some 7, level := none } true)) (inSlot carded)) (fun t =>
    decide (t.openCards = [7] ∧ t.reserved = 1 ∧ t.cards.map CardRecord.remaining = [2] ∧
      (t.bay 3).hatch.tOw = some 8 ∧ (t.bay 3).column.answer = some ⟨7, .granted⟩)) = true := by decide

theorem test_one_shot_blocked_fails : next (exec (.liftReport true 52 3 .blocked 0) { claimed with
      orders := [{ order3 with state := .claimed, vehicle := some 52, oneShot := true }] }) (fun t =>
    decide (t.orders = [] ∧ t.history.map HistoryEntry.outcome = [.failed] ∧
      t.history.map HistoryEntry.cause = [some .blocked] ∧ t.history.map HistoryEntry.attempts = [1] ∧
      (t.bay 3).hold.reported = true)) = true := by decide

theorem test_emptied_resets_the_estimate : next (exec (.liftReport true 52 3 .emptied 310)
      (claimed.modEst 3 fun e => { e with fill := 2000, fails := 2 })) (fun t =>
    decide ((t.bay 3).est.fill = 20 ∧ (t.bay 3).est.fails = 0 ∧ t.orders = [] ∧
      t.history.map HistoryEntry.mass = [some 310])) = true := by decide

theorem test_orphan_released : next (exec (.releaseOrphan 1 3) orphaned) (fun t =>
    decide (t.orders.map Order.attempts = [1] ∧ t.orders.map Order.state = [.pending] ∧
      (t.bay 3).hold = {})) = true := by decide

theorem test_dock_adopts : next (exec (.dock true 52 31) orphaned) (fun t =>
    decide ((t.bay 3).hold.orphan = false ∧ (t.bay 3).hold.emptying = some 52 ∧
      t.dock = some ⟨52, 31, 120⟩)) = true := by decide

theorem test_claim_in_a_cycle_quiesces : next (exec (.claim true 52 3) { cycling with
      dock := some ⟨52, 31, 120⟩, orders := [order3] }) (fun t =>
    decide ((t.bay 3).hold.tQ = some 30 ∧ opState (t.bay 3) = .quiescing ∧
      t.orders.map Order.state = [.claimed])) = true := by decide

theorem test_forced_end_is_a_cut : next (exec (.tQExpiry 3) (cycling.modHold 3 fun h =>
      { h with emptying := some 52, tQ := some 30 })) (fun t =>
    decide ((t.bay 3).hold.forced = true ∧ (t.bay 3).hold.tQ = none ∧ opState (t.bay 3) = .held ∧
      t.log.map LogRecord.outcome = [.cut] ∧ (t.bay 3).hatch.demand = some (.running 10))) = true := by decide

theorem test_bus_quiet_drains : next (exec (.busQuiet 0) cycling) (fun t =>
    decide (t.bus.state = .draining)) = true := by decide

theorem test_closed_ends_draining : next (exec (.slotEnd (uplink3 .closed 90)) (inSlot { cycling with
      bus := { cycling.bus with state := .draining } })) (fun t =>
    decide (t.bus.state = .quiet ∧ t.log.map LogRecord.outcome = [.noDeposit] ∧ t.bus.slots = [])) = true := by
  decide

theorem test_stuck_line_blocks : next (exec .stuckLineDetected { cycling with
      bus := { cycling.bus with state := .woken, level := .active } }) (fun t =>
    decide (t.bus.state = .blocked ∧ t.bus.target = some .quiet ∧ t.log.map LogRecord.outcome = [.unconfirmed] ∧
      (t.bay 3).est.fill = 60 ∧ (t.bay 3).hatch.baseline = none ∧
      (t.bay 3).hatch.demand = some .held)) = true := by decide

/-- R42: the measure restarts whenever the line is seen idle. R43: an active line delays the return. -/
theorem test_line_level_guards_blocking :
    next (exec .stuckLineDetected cycling) (fun t => decide (t.bus.state = .active)) = true ∧
    (∀ level : LineLevel, level = .active ∨ level = .idle →
      next (exec .blockedRecovery { State.reset with
        bus := { State.reset.bus with state := .blocked, target := some .active, slots := [], level := level } })
        (fun t => decide (t.bus.state = if level = .idle then .active else .blocked)) = true) := by
  refine ⟨by decide, fun level _ => ?_⟩
  cases level <;> decide

/-- The attention example of section 10.4: Dock and Wake set, Wake disabled. -/
def dockAndWake : State :=
  { State.reset with port := { items := 48#10, mask := 1007#10 } }

theorem test_cleared_line_holds : next (exec (.clearAttention 2 32) dockAndWake) (fun t =>
    decide (t.port.items = 16#10 ∧ t.port.line = .holding ∧
      t.port.carrying.map Response.data = some (.items 48))) = true := by decide

theorem test_held_line_is_asserted_again : next (exec .deassertTimerExpiry { dockAndWake with
      port := { dockAndWake.port with items := 80#10, line := .holding } }) (fun t =>
    decide (t.port.line = .asserted)) = true := by decide

/-- R196, R198: a Holding line is high. R203: Dock and Wake are bits 5 and 4 of the attention word. -/
theorem test_read_attention :
    next (exec (.readAttention 0) { dockAndWake with port := { dockAndWake.port with line := .holding } }) (fun t =>
      decide (t.port.carrying = some ⟨.ok, .attention 48 1007 .high⟩)) = true ∧
    (dataBytes (.attention 48 1007 .high)).take 4 = [0x00, 0x30, 0x03, 0xEF] := by decide

/-! Frames, byte by byte: codes of R200, most significant byte first (R192); 7000 is 1B58H. -/

theorem test_set_clock_frame :
    readFrame [7, 4, 0x1B, 0x58, 0x01, 0x37, 0xAA] = .command (.setClock 4 7000 311) ∧
    readFrame [7, 4, 0x1B, 0x58, 0x01] = .discarded ∧ readFrame [7] = .summaryRead := by decide

theorem test_insert_card_frame :
    readFrame [10, 10, 0, 0, 0x0B, 0xC4, 0, 9, 0, 2, 255, 31] =
      .command (.insertCard 10 3012 ⟨9, 0, 2, 255, 31⟩) := by decide

theorem test_unknown_code_frame : readFrame [36, 0] = .command (.unknownCommand 0 36) ∧
    readFrame [35, 0] = .command (.serviceReset 0) := by decide

/-- The bytes returned in a frame without parameters: the Summary byte, 0 at the turnaround (position 2), the wait
value 255, then, after one wait byte, the status and a count of 0, and 0 after them (R189, R190). -/
theorem test_returned_bytes :
    returnedByte { frame := .begun, summary := some 0x82 } 0 0 0 = some 0x82 ∧
    returnedByte { frame := .waiting } 0 2 0 = some 0 ∧ returnedByte { frame := .waiting } 0 3 0 = some 255 ∧
    ([0, 1, 2, 3].map fun given => returnedByte { frame := .responding ⟨.full, .nothing⟩ } 0 (4 + given) given) =
      [some 6, some 0, some 0, some 0] := by decide

theorem test_rollover_at_the_week_end : next (exec .minuteTick { carded with
      clock := { minute := 10079, week := 311, set := true } }) (fun t =>
    decide (t.clock.minute = 0 ∧ t.clock.week = 312 ∧ t.cards.map CardRecord.remaining = [5])) = true := by
  decide +kernel

/-- R84: after a power-on reset the first and the last place of the record storage hold zeros, whatever they held; R66:
the second record inserted takes the second place. -/
theorem test_card_storage : next (exec .powerOnReset carded) (fun t =>
      decide (storedAt carded 0 = .holds card7 ∧ storedAt t 0 = .zeros ∧ storedAt t 4095 = .zeros)) = true ∧
    next (exec (.insertCard 10 8 ⟨9, 0, 2, 255, 31⟩) carded) (fun t =>
      decide (storedAt t 0 = .holds card7 ∧ storedAt t 1 = .holds { card7 with number := 8, remaining := 5 } ∧
        storedAt t 2 = .zeros)) = true := by decide

theorem test_summary_at_reset : next (exec .selectFall State.reset) (fun t =>
    decide (t.port.summary = some 0x82)) = true := by decide

/-- R133, R143, R190: a Read Container Status that waits answers with the fill of its taking (E was 0 L then) and,
carried out after the commands before it, with the hold they have set. -/
theorem test_waiting_status_keeps_its_figures :
    let taken := exec (.readContainerStatus 1 3) { district with
      port := { district.port with carrying := some ⟨.ok, .nothing⟩ } }
    next taken (fun t =>
      next (exec .queuedCommandStart (State.modBay { t with port := { t.port with carrying := none } } 3 fun b =>
          { b with est := { b.est with fill := 900, mode := .blind }, hold := { b.hold with service := true } }))
        fun u =>
        match u.port.carrying with
        | some ⟨.ok, .containerStatus v⟩ =>
          decide (v.effFill = 0 ∧ v.effPercent = 0 ∧ v.est.mode = .tracking ∧ v.hold.service = true ∧
            v.opState = .held ∧ u.port.waiting = [])
        | _ => false) = true := by decide

theorem test_service_reset_cuts : next (exec (.serviceReset 0) cycling) (fun t =>
    decide (t.openCards = [] ∧ t.reserved = 0 ∧ t.log.map LogRecord.outcome = [.cut] ∧
      (t.bay 3).hatch.demand = some (.running 10) ∧
      t.port.carrying = some ⟨.ok, .resetCounts 1 0⟩)) = true := by decide

theorem test_empty_queue_idles : next (step district) (fun t =>
    decide (t.bus = district.bus ∧ t.bay 3 = paper)) = true := by decide

/-! ## Witnesses: states and operands that meet the hypotheses of the statements -/

/-- A port with a command in hand. -/
def busyPort (s : State) : State := { s with port := { s.port with carrying := some ⟨.ok, .nothing⟩ } }

/-- A port with a command waiting and none in hand. -/
def waitingPort (s : State) : State := { s with port := { s.port with waiting := [⟨.noOp 0, none⟩] } }

theorem witness_StepTakesTheFrontEvent : State.reset.pending = [] := by decide

theorem witness_FramesEndAndCommandsComplete : (busyPort district).port.carrying = some ⟨.ok, .nothing⟩ ∧
    district.port.carrying = none ∧
    (List.length ([] : List Byte) < (1 : Byte).toNat ∧ List.length [(0x1B : Byte)] = (1 : Byte).toNat) ∧
    (∀ f ∈ [Frame.none, .begun, .waiting, .responding ⟨.ok, .nothing⟩],
      ({ frame := f } : Port).frame = f) ∧
    (dataBytes .nothing).length ≤ 65535 := by decide

theorem witness_CommandsAreTakenAndWait_other :
    isPortCommand (.noOp 0) = true ∧ ∀ len c : Byte, Instr.noOp 0 ≠ .readContainerStatus len c :=
  ⟨rfl, fun _ _ h => by cases h⟩

theorem witness_CommandsAreTakenAndWait :
    (isPortCommand (.noOp 0) = true ∧ ¬ (busyPort district).portIsFree) ∧
    (isPortCommand (.unknownCommand 0 36) = true ∧ district.portIsFree) ∧
    ((waitingPort district).port.carrying = none ∧ (waitingPort district).port.waiting = [⟨.noOp 0, none⟩]) ∧
    (let w : Waiting := ⟨.readContainerStatus 1 3, some (fillFigures (district.bay 3))⟩
     let p : Port := { waiting := [w] }
     p.carrying = none ∧ p.waiting = [w]) ∧
    (busyPort district).port.carrying ≠ none ∧ district.port.waiting = [] ∧
    (commandLength (.start 2 3) = some 1 ∧ (lengthByte (.start 2 3)).toNat ≠ 1) ∧
    (commandLength (.start 1 32) = some 1 ∧ (lengthByte (.start 1 32)).toNat = 1 ∧
      containerByte (.start 1 32) = some 32 ∧ 32 ≤ (32 : Byte).toNat) ∧
    ((35 : Byte).toNat ≤ 35 ∧ 36 ≤ (36 : Byte).toNat) ∧
    (commandLength (.setClock 4 7000 311) = some 4 ∧ (lengthByte (.setClock 4 7000 311)).toNat = 4) := by decide

theorem witness_PlainCommandsAnswer : district.portIsFree ∧ 36 ≤ (36 : Byte).toNat := by decide

/-- District settings in range, and the same with the last rollover minute, the first bad one, a bad curfew. -/
def settingsWrite (rollover curfew : Half) : DistrictParams :=
  { period := 15, rollover := rollover, curfew := Vector.replicate 5 ⟨0, curfew⟩,
    plans := Vector.replicate 16 250, nLost := 4, tInact := 90, tOw := 8, tDep := 45, tCl := 10, tQ := 30,
    tDock := 120 }

theorem witness_DistrictSettingsAreStoredWhole_refused : district.portIsFree ∧
    10079 < (settingsWrite 10080 0).rollover.toNat ∧
    1439 < ((settingsWrite 0 1440).curfew[(4 : Fin 5)]).stop.toNat := by decide

theorem witness_DistrictSettingsAreStoredWhole_taken : district.portIsFree ∧
    ¬ 10079 < (settingsWrite 10079 1439).rollover.toNat ∧
    ∀ i : Fin 5, ¬ (1439 < ((settingsWrite 10079 1439).curfew[i]).start.toNat ∨
      1439 < ((settingsWrite 10079 1439).curfew[i]).stop.toNat) := by decide

theorem witness_ClockCommandsSetAndRead : district.portIsFree ∧ 10079 < (10080 : Half).toNat ∧
    (10079 : Half).toNat ≤ 10079 ∧
    (Instr.readClock 0 ≠ .powerOnReset ∧ carded.clock.set = true ∧
      next (exec (.readClock 0) carded) (fun _ => true) = true) := by decide

theorem witness_MinuteTickMovesTheClock :
    next (exec .minuteTick carded) (fun t =>
      decide (carded.clock.set = true ∧ t.clock.minute % carded.settings.period = 0)) = true ∧
    next (exec .minuteTick district) (fun t =>
      decide (¬ (district.clock.set = true ∧ t.clock.minute % district.settings.period = 0))) = true := by
  decide +kernel

theorem witness_ConfigWritesAreChecked : district.portIsFree ∧ fractionOf 5 = none ∧ 7 < (8 : Byte).toNat ∧
    (fractionOf clampedWrite.fraction = some .paper ∧ clampedWrite.cluster.toNat ≤ 7) ∧
    ((district.bay 3).record.started = true ∧ (district.bay 3).record.config.drum ≠ 61) ∧
    (State.reset.bay 3).record.started = false := by decide

theorem witness_StartAndRetireAreTaken : district.portIsFree ∧
    (let s := at3 { record := { config := { present := true } } }
     s.portIsFree ∧ (s.bay 3).record.started = false ∧ (s.bay 3).record.config.present = true) ∧
    ¬ ((district.bay 3).record.started = false ∧ (district.bay 3).record.config.present = true) ∧
    (State.reset.bay 3).record.started = false ∧
    ((district.bay 3).record.started = true ∧ (district.bay 3).hold.service = false ∧
      (district.bay 3).hold.emptying = none ∧ (district.bay 3).hatch.cycle = none) := by decide

/-- The last status, plan and fraction set a card may have. -/
def cardWrite : CardParams := ⟨9, 2, 15, 255, 31⟩

/-- Whether what a card command carries is refused outright. -/
def badCard (card : Quad) (p : CardParams) : Bool :=
  decide (card = 0#32 ∨ card = 0xFFFFFFFF#32 ∨ 2 < p.status.toNat ∨ 15 < p.plan.toNat ∨ 32 ≤ p.fractions.toNat)

theorem witness_InsertCardAddsInOrder_places : carded.cards[(0 : Fin 4096).val]? = some card7 ∧
    (carded.cards.length ≤ (1 : Fin 4096) ∧ carded.cardStorage.used ≤ (1 : Fin 4096)) := by decide

theorem witness_InsertCardAddsInOrder : carded.portIsFree ∧ carded.cardsOrdered ∧ badCard 0 cardWrite = true ∧
    badCard 0xFFFFFFFF cardWrite = true ∧ badCard 8 { cardWrite with status := 3 } = true ∧
    badCard 8 { cardWrite with plan := 16 } = true ∧ badCard 8 { cardWrite with fractions := 32 } = true ∧
    (badCard 7 cardWrite = false ∧ ∃ k ∈ carded.cards, k.number = (7 : Quad).toNat) ∧
    (badCard 8 cardWrite = false ∧ ¬ (∃ k ∈ carded.cards, k.number = (8 : Quad).toNat) ∧
      carded.cards.length < 4096) := by decide

theorem witness_InsertCardAddsInOrder_full : let s := { carded with cards := List.replicate 4096 card7 }
    s.portIsFree ∧ ¬ (∃ k ∈ s.cards, k.number = (8 : Quad).toNat) ∧ 4096 ≤ s.cards.length := by
  refine ⟨by decide, ?_, Nat.le_of_eq List.length_replicate.symm⟩
  rintro ⟨k, hk, h⟩
  rw [List.eq_of_mem_replicate hk] at h
  exact absurd h (by decide)

theorem witness_CardsAreUpdatedAndRemoved : carded.portIsFree ∧ carded.cardsOrdered ∧ badCard 0 cardWrite = true ∧
    (badCard 8 cardWrite = false ∧ (carded.cards.find? fun k => k.number == (8 : Quad).toNat) = none) ∧
    (badCard 7 cardWrite = false ∧ (carded.cards.find? fun k => k.number == (7 : Quad).toNat) = some card7) := by
  decide

theorem witness_ReadCardFindsTheRecord : carded.portIsFree ∧ carded.cardsOrdered ∧ 2 ≤ (2 : Byte).toNat ∧
    (∃ k ∈ carded.cards, k.number = (7 : Quad).toNat) ∧ (∀ k ∈ carded.cards, k.number ≠ (8 : Quad).toNat) ∧
    (∃ k ∈ carded.cards, (6 : Quad).toNat < k.number ∧
      ∀ x ∈ carded.cards, (6 : Quad).toNat < x.number → k.number ≤ x.number) ∧
    (∀ k ∈ carded.cards, k.number ≤ (7 : Quad).toNat) := by decide

theorem witness_LogAndHistoryReads : carded.portIsFree := by decide

theorem witness_EstimateCommandsSetRecords : district.portIsFree := by decide

theorem witness_DepositVolumesAddExactly : let e : Estimate := { fill := 3750, rem := 255, volume := 65535 }
    e.rem ≤ 255 ∧ e.volume ≤ 65535 ∧ e.fill ≤ 5 * exampleConfig.capacity / 4 := by decide

/-- Windows of two, three and five readings. -/
def window2 : List Reading := [⟨2050, 1⟩, ⟨2075, 2⟩]

/-- Three readings. -/
def window3 : List Reading := [⟨2050, 1⟩, ⟨2063, 3⟩, ⟨2075, 2⟩]

/-- Five readings, the oldest on top. -/
def window5 : List Reading := [⟨2369, 3⟩, ⟨2375, 2⟩, ⟨2380, 5⟩, ⟨2388, 4⟩, ⟨2938, 1⟩]

theorem witness_ReadingsAndMedian : windowOrdered [] ∧ windowOrdered window2 ∧ windowOrdered window3 ∧
    windowOrdered window5 ∧ window2.length < 3 ∧ 3 ≤ window3.length ∧ window3.length < 5 ∧
    window5.length = 5 ∧ (∃ r ∈ window5, r.rank = 1) := by decide

theorem witness_PeriodCorrectionOfARecord : measurement window2 = none ∧ measurement window3 = some 2063 := by decide

theorem witness_EvaluationSetsFlagAndOrders : (∀ o ∈ district.orders, o.container ≠ 3) ∧
    (∃ o ∈ ordered.orders, o.container = 3) ∧
    (let b := (district.modEst 3 fun e => { e with mode := .blind }).bay 3
     b.record.started = true ∧ b.est.mode = .blind) ∧
    ¬ ((district.bay 3).record.config.tOrder * (district.bay 3).record.config.capacity / 100 ≤
      (district.bay 3).est.fill ∨ (district.bay 3).est.mode = .blind) := by decide

theorem witness_PostOrderCreatesOrMerges : district.portIsFree ∧ 32 ≤ (32 : Byte).toNat ∧
    (State.reset.bay 3).record.started = false ∧
    (claimed.portIsFree ∧ (claimed.bay 3).record.started = true ∧
      ((claimed.orders.find? fun o => o.container == 3).map Order.state) = some .claimed) ∧
    ((district.bay 3).record.started = true ∧ (district.orders.find? fun o => o.container == 3) = none) ∧
    ((ordered.bay 3).record.started = true ∧ (ordered.orders.find? fun o => o.container == 3) = some order3 ∧
      order3.state ≠ .claimed) := by decide

theorem witness_AbortOrderFinishesOrMarks : ordered.portIsFree ∧ ordered.ordersFit ∧
    (ordered.orders.find? fun o => o.number == (412 : Half).toNat) = none ∧
    ((ordered.orders.find? fun o => o.number == (411 : Half).toNat) = some order3 ∧ order3.state = .pending) ∧
    (claimed.portIsFree ∧ claimed.ordersFit ∧
      ((claimed.orders.find? fun o => o.number == (411 : Half).toNat).map Order.state) = some .claimed) := by
  decide

/-- A history of `n` entries. -/
def withHistory (n : Nat) (w : Bool) : State :=
  { carded with
    wrapped := w
    history := List.replicate n ⟨411, 0, 3, .auto, .emptied, false, none, none, none, none, 0⟩ }

theorem witness_FinishedOrdersEnterHistory :
    (ordered.orders.find? fun o => o.container == 3) = some order3 ∧
    (∀ o ∈ district.orders, o.container ≠ 3) ∧ district.history = [] ∧
    (64 ≤ (withHistory 64 false).history.length ∧ (withHistory 64 false).wrapped = false) ∧
    ((withHistory 63 false).history ≠ [] ∧ ¬ 64 ≤ (withHistory 63 false).history.length) ∧
    ((withHistory 64 true).history ≠ [] ∧ (withHistory 64 true).wrapped = true) := by decide

theorem witness_RankedOrders : (∀ o ∈ [order3, { order3 with priority := 3 }], o.priority ≤ 3) ∧
    ordered.portIsFree ∧ 1 ≤ ordered.orderCounter ∧ ordered.orderCounter ≤ 65535 ∧ ordered.orders.length ≤ 32 ∧
    (∀ o ∈ ordered.orders, o.number ≠ ordered.orderCounter) := by decide

/-- Container 3 held for service. -/
def serviced : State := district.modHold 3 fun h => { h with service := true }

theorem witness_ServiceHoldsSetAndClear : district.portIsFree ∧ serviced.portIsFree ∧
    (State.reset.bay 3).record.started = false ∧
    ((serviced.bay 3).record.started = true ∧ (serviced.bay 3).hold.service = true) ∧
    ((district.bay 3).record.started = true ∧ (district.bay 3).hold.service = false) := by decide

/-- The claimed order, changed, under an orphaned hold. -/
def orphanedWith (o : Order) : State :=
  { orphaned with orders := [{ o with state := .claimed, vehicle := some 52 }] }

/-- The order of container 3 as a release of its orphan finds it. -/
def foundOrder (s : State) : Option Order := s.orders.find? fun o => o.container == 3

theorem witness_ReleaseOrphanCountsAnAttempt : orphaned.portIsFree ∧ (district.bay 3).hold.emptying = none ∧
    (claimed.bay 3).hold.orphan = false ∧
    ((orphaned.bay 3).hold.emptying = some 52 ∧ (orphaned.bay 3).hold.orphan = true) ∧
    foundOrder { orphaned with orders := [order3] } = some order3 ∧ order3.state ≠ .claimed ∧
    (foundOrder (orphanedWith { order3 with attempts := 2 })).map
      (fun o => (o.state, o.vehicle, o.attempts)) = some (.claimed, some 52, 2) := by decide

theorem witness_ReleaseOrphanCountsAnAttempt_returned (aborted : Bool) :
    (foundOrder (orphanedWith { order3 with attempts := 1, abortRequested := aborted })).map
      (fun o => (o.state, o.vehicle, o.attempts, o.oneShot, o.abortRequested)) =
        some (.claimed, some 52, 1, false, aborted) := by
  cases aborted <;> decide

/-- Container 3 with HatchJam and a last uplink. -/
def jammed (lost : Bool) (last : Option HatchState) : State :=
  at3 { paper with
    record := { paper.record with fault := .hatchJam }
    column := { lost := lost, last := last.map fun h => ⟨h, 0, none, none⟩ } }

theorem witness_ClearFaultFollowsTheTable : district.portIsFree ∧ (district.bay 3).record.fault = .none ∧
    ((at3 { paper with record := { paper.record with fault := .columnLost } }).bay 3).record.fault =
      .columnLost ∧
    (∀ lost : Bool, ∀ last ∈ [none, some HatchState.closed, some .jammed],
      ((jammed lost last).bay 3).record.fault = .hatchJam ∧ (jammed lost last).portIsFree) ∧
    ((jammed false (some .closed)).bay 3).column.lost = false := by decide

/-- The district on a bus in a state, with its target. -/
def onBus (b : BusState) (target : Option BusTarget) : State :=
  { district with bus := { district.bus with
      state := b, target := target, tInact := if b = .woken then some 90 else none } }

theorem witness_BusMovesBetweenStates : district.portIsFree ∧
    ((onBus .woken none).bus.state = .woken ∧ (onBus .woken none).bus.tInact ≠ none) ∧
    ¬ (district.bus.state = .woken ∧ district.bus.tInact ≠ none) ∧
    (∀ g ∈ [BusTarget.active, .quiet],
      let b := (onBus .blocked (some g)).bus
      b.state = .blocked ∧ b.level = .idle ∧ b.target = some g ∧
      ¬ ({ b with level := .active }.level = LineLevel.idle)) ∧
    ¬ (district.bus.state = .blocked ∧ district.bus.level = .idle ∧ district.bus.target ≠ none) := by decide

theorem witness_QuietEntryAndCycleStart :
    (∀ b ∈ [BusState.active, .woken, .draining],
      (onBus b none).bus.state = .active ∨ (onBus b none).bus.state = .woken ∨
        (onBus b none).bus.state = .draining) ∧
    (inSlot district).bus.slots = [some 3, none] ∧
    { (inSlot district).bus with slots := [none] }.slots.length ≤ 1 ∧
    ¬ ((onBus .quiet none).bus.state = .active ∨ (onBus .quiet none).bus.state = .woken ∨
      (onBus .quiet none).bus.state = .draining) := by decide

theorem witness_FlagAndAttentionCommands : district.portIsFree ∧ district.bus.modesAgree ∧
    ((onBus .blocked (some .quiet)).portIsFree ∧ (onBus .blocked (some .quiet)).bus.modesAgree) := by decide

theorem witness_AttentionLineFollows : (∃ p : Port, p.line = .holding) ∧ district.port.line ≠ .holding ∧
    (dockAndWake.port.lineAgrees ∧
      next (step { dockAndWake with pending := [.clearAttention 2 32] }) (fun _ => true) = true) := by
  exact ⟨⟨{ line := .holding }, rfl⟩, by decide, by decide⟩

theorem witness_ServiceResetClearsTheDistrict : cycling.portIsFree ∧ cycling.cyclesAgree ∧ cycling.ordersFit ∧
    cycling.port.lineAgrees ∧ 1 ≤ cycling.openCards.length ∧
    (ordered.portIsFree ∧ ordered.cyclesAgree ∧ ordered.ordersFit ∧ ordered.port.lineAgrees ∧
      ordered.openCards.length = 0) := by decide

/-- The slot of column 3 after `n` slots that were not Valid. -/
def missed (n : Nat) (s : State) : State := inSlot (s.modColumn 3 fun k => { k with consecutive := n })

theorem witness_NonValidSlotEnds : { State.reset with bus := { slots := [] } }.bus.slots = [] ∧
    State.reset.bus.slots = none :: List.replicate 7 none ∧
    (inSlot district).bus.slots = some 3 :: [none] ∧
    (let k := ((missed 2 cycling).bay 3).column
     ¬ (k.lost = false ∧ (missed 2 cycling).settings.nLost ≤ min 15 (k.consecutive + 1))) ∧
    (let s := missed 3 cycling
     (s.bay 3).column.lost = false ∧ s.settings.nLost ≤ min 15 ((s.bay 3).column.consecutive + 1) ∧
     (s.bay 3).hatch.cycle = some cycle7) ∧
    (let s := missed 3 district
     (s.bay 3).column.lost = false ∧ s.settings.nLost ≤ min 15 ((s.bay 3).column.consecutive + 1) ∧
     (s.bay 3).hatch.cycle = none) := by decide

/-- The slot of column 3 with an answer pending, sent in this slot. -/
def answering : State :=
  inSlot (district.modColumn 3 fun k =>
    { k with answer := some ⟨8, .denied .unknownCard⟩, downlink := some ⟨.keepClosed, .denied .unknownCard, some 8⟩ })

theorem witness_ValidSlotEnds : (inSlot district).bus.slots = some 3 :: [none] ∧
    ((answering.bay 3).column.answer = some ⟨8, .denied .unknownCard⟩ ∧
      (answering.bay 3).column.downlink.map Downlink.tag = some (some 8)) ∧
    (answering.bus.state ≠ .draining ∧ (8 : Quad).toNat = 8) ∧
    ((inSlot district).bay 3).column.answer = none ∧ ((inSlot district).bay 3).hatch.baseline = none ∧
    ((jammed false none).bay 3).record.fault = .hatchJam ∧
    (let s := inSlot (at3 { paper with
        record := { paper.record with fault := .columnLost }, column := { lost := true } })
     (s.bay 3).column.lost = true ∧ (s.bay 3).record.fault = .columnLost) := by decide

theorem witness_DrumTurnsAreTaken : (∀ b ∈ [0, 240, 255], ∀ n ∈ [0, 15, 255], b ≤ 255 ∧ n ≤ 255) ∧
    (cycling.bay 3).hatch.stray ≤ 65535 ∧ (∃ k ∈ (cycling.bay 3).hatch.cycle, k.phase ≠ .deposited) ∧
    ((cycling.bay 3).hatch.cycle = some cycle7 ∧ cycle7.phase ≠ .deposited) ∧
    (∀ k ∈ (district.bay 3).hatch.cycle, k.phase = .deposited) ∧
    (let s := cycling.modHatch 3 fun h => { h with cycle := some { cycle7 with phase := .deposited } }
     ∃ k ∈ (s.bay 3).hatch.cycle, k.phase = .deposited) := by decide

theorem witness_HatchReportsMovePhases : (district.bay 3).hatch.cycle = none ∧
    (cycling.bay 3).hatch.cycle = some cycle7 := by decide

theorem witness_DecisionFollowsTheChecks : carded.cardOf 7 = some card7 ∧ carded.cardOf 8 = none := by decide

theorem witness_GrantsAndDenials : decided carded 7 = .granted ∧ decided carded 8 = .denied .unknownCard ∧
    (let s := { carded with cards := [{ card7 with status := .lost }] }
     s.cardOf 7 = some { card7 with status := .lost } ∧ decided s 7 = .denied .cardBlocked) ∧
    (let s := { carded with cards := [{ card7 with status := .suspended }] }
     s.cardOf 7 = some { card7 with status := .suspended } ∧ decided s 7 = .denied .cardBlocked) := by decide

theorem witness_LineEventsQualifyWakes : LineLevel.active ≠ district.bus.level ∧
    (let s := { district with bus := { district.bus with
        state := .quiet, qualifier := .seeking 2, level := .active } }
     s.bus.state = .quiet ∧ s.bus.qualifier = .seeking 2 ∧ s.bus.level = .active) ∧
    ¬ (district.bus.state = .quiet) := by decide

theorem witness_StuckLineBlocksTheBus : (onBus .blocked (some .active)).bus.state = .blocked ∧
    cycling.bus.level = .idle ∧
    (let s := { cycling with bus := { cycling.bus with level := .active } }
     s.bus.state ≠ .blocked ∧ s.bus.level = .active ∧ s.cyclesAgree) := by decide

theorem witness_CycleEndsSettleAndLog : (district.bay 3).hatch.cycle = none ∧ (cycling.bay 3).hatch.cycle = some cycle7 ∧
    (let s := { cycling with bus := { cycling.bus with state := .draining } }
     s.bus.state = .draining ∧ ∀ d : Box, d ≠ 3 → (s.bay d).hatch.cycle = none) := by decide

theorem witness_ContainerTimersExpire :
    (let s := district.modHatch 3 fun h => { h with demand := some (.running 10) }
     (s.bay 3).hatch.demand = some (.running 10)) ∧
    (district.bay 3).hatch.demand = none ∧ (district.bay 3).hold.tQ = none ∧
    (let s := cycling.modHold 3 fun h => { h with service := true, tQ := some 30 }
     (s.bay 3).hold.tQ ≠ none ∧ (s.bay 3).hatch.cycle = some cycle7) ∧
    (let s := district.modHold 3 fun h => { h with service := true, tQ := some 30 }
     (s.bay 3).hold.tQ ≠ none ∧ (s.bay 3).hatch.cycle = none) := by decide

theorem witness_StatusAndUnknownMessages : (52 : Half) ≠ 0#16 ∧
    (∃ e ∈ holdList claimed (52 : Half).toNat, e.container = 3) := by decide

/-- The district with the docked vehicle and its offered order. -/
def offered : State :=
  { ordered with
    dock := some ⟨52, 31#8, 120⟩, orders := [{ order3 with state := .offered, vehicle := some 52 }] }

/-- The same with the abort of the offered order requested. -/
def abandoned : State :=
  { offered with orders := [{ order3 with state := .offered, vehicle := some 52, abortRequested := true }] }

theorem witness_DockAndRefreshOffer_aborted : abandoned.dock = some ⟨52, 31, 120⟩ ∧ abandoned.ordersFit ∧
    abandoned.offersDocked ∧ abandoned.port.lineAgrees ∧
    (abandoned.orders.filter fun o => o.state == .offered && o.abortRequested) ≠ [] := by decide

theorem test_refresh_aborts_a_marked_offer : next (exec (.refresh true 52) abandoned) (fun t =>
    decide (t.orders = [] ∧ t.port.items.getLsbD 7 = true ∧
      t.history.map (fun e => (e.number, e.outcome, e.mark, e.vehicle)) = [(411, .aborted, true, some 52)])) =
    true := by decide +kernel

theorem witness_DockAndRefreshOffer : (52 : Half) ≠ 0#16 ∧ (31 : Byte) ≠ 0#8 ∧ (31 : Byte).toNat < 32 ∧
    32 ≤ (32 : Byte).toNat ∧ offered.dock ≠ none ∧ ordered.dock = none ∧
    (∀ d ∈ ordered.dock, d.vehicle ≠ (52 : Half).toNat) ∧ (∀ d ∈ offered.dock, d.vehicle ≠ (53 : Half).toNat) ∧
    (offered.dock = some ⟨52, 31, 120⟩ ∧ offered.ordersFit) ∧
    (∀ o ∈ offered.orders, o.state = .offered → o.abortRequested = false) := by decide

theorem witness_DockEndsOrphanHolds : (∀ d ∈ ordered.dock, d.vehicle ≠ (52 : Half).toNat) ∧
    ordered.dock = none ∧ (offered.dock = some ⟨52, 31, 120⟩ ∧ offered.ordersFit) ∧
    (∀ o ∈ offered.orders, o.state = .offered → o.abortRequested = false) ∧
    (claimed.dock = some ⟨52, 31, 120⟩ ∧ claimed.ordersFit) ∧
    (abandoned.dock = some ⟨52, 31, 120⟩ ∧ abandoned.ordersFit ∧ abandoned.offersDocked ∧
      abandoned.port.lineAgrees) := by decide

/-- The docked vehicle before a container with a hold of another id, or none started. -/
def dockedAt (b : Bay) : State := { at3 b with dock := some ⟨52, 2#8, 120⟩ }

theorem witness_ClaimBindsAndHolds : (52 : Half) ≠ 0#16 ∧ 32 ≤ (32 : Byte).toNat ∧
    (∀ d ∈ ordered.dock, d.vehicle ≠ (52 : Half).toNat) ∧
    (dockedAt {}).dock = some ⟨52, 2, 120⟩ ∧ ((dockedAt {}).bay 3).record.started = false ∧
    ((dockedAt paper).bay 3).record.started = true ∧
    (2#8).getLsbD (fractionCode ((dockedAt paper).bay 3).record.config.fraction) = true ∧
    ¬ ((2#8).getLsbD (fractionCode ((dockedAt { paper with record := { paper.record with
      config := { present := true, fraction := .glass } } }).bay 3).record.config.fraction) = true) ∧
    ((dockedAt { paper with hold := { emptying := some 53 } }).bay 3).hold.emptying = some 53 ∧
    (claimed.dock = some ⟨52, 31, 120⟩ ∧ (claimed.bay 3).hold.emptying = some (52 : Half).toNat) ∧
    ((dockedAt paper).bay 3).hold.emptying = none ∧ (∀ o ∈ (dockedAt paper).orders, o.container ≠ 3) ∧
    (∃ o ∈ offered.orders, o.container = 3) := by decide

theorem witness_LiftReportFinishesOrReturns : (52 : Half) ≠ 0#16 ∧ LiftCode.blocked ≠ .other ∧
    (∀ d ∈ ordered.dock, d.vehicle ≠ (52 : Half).toNat) ∧
    (offered.dock = some ⟨52, 31, 120⟩ ∧ (offered.bay 3).hold.emptying ≠ some (52 : Half).toNat) ∧
    (claimed.dock = some ⟨52, 31, 120⟩ ∧ (claimed.bay 3).hold.emptying = some (52 : Half).toNat ∧
      (claimed.bay 3).hold.reported = false ∧
      ((claimed.orders.find? fun o => o.container == 3).map fun o => (o.state, o.vehicle)) =
        some (.claimed, some (52 : Half).toNat)) := by decide

theorem witness_ReleaseReturnsTheOrder : (52 : Half) ≠ 0#16 ∧ (∀ d ∈ ordered.dock, d.vehicle ≠ (52 : Half).toNat) ∧
    (offered.dock = some ⟨52, 31, 120⟩ ∧ (offered.bay 3).hold.emptying ≠ some (52 : Half).toNat) ∧
    (claimed.dock = some ⟨52, 31, 120⟩ ∧ (claimed.bay 3).hold.emptying = some (52 : Half).toNat) ∧
    (let s := { claimed with orders := [order3] }
     ∀ o ∈ (s.orders.find? fun o => o.container == 3),
       ¬ (o.state = .claimed ∧ o.vehicle = some (52 : Half).toNat)) ∧
    ((claimed.orders.find? fun o => o.container == 3).map fun o => (o.state, o.vehicle)) =
      some (.claimed, some (52 : Half).toNat) := by decide

/-! The invariants hold of states with a cycle, a claim and an offer, and each of these takes a step. -/

/-- A step is taken from a state. -/
def steps (s : State) (i : Instr) : Bool := next (step { s with pending := [i] }) fun _ => true

theorem witness_RecordsStayInRange : cycling.recordsInRange ∧ cycling.countersInRange ∧
    (withHistory 64 true).countersInRange ∧ steps cycling (.tDepExpiry 3) = true := by decide

theorem witness_MeasurementsStayInRange : (district.modEst 3 fun e => { e with window := window3 }).measuresInRange ∧
    steps district .minuteTick = true := by decide

theorem witness_CardsAndSettingsStayInRange : (cycling.cardsOrdered ∧ cycling.storageCovers ∧ cycling.allowancesBounded ∧
    cycling.settings.inRange ∧ cycling.clock.inRange) ∧ steps cycling (.tDepExpiry 3) = true := by decide

theorem witness_OpenCardsMatchCycles : (cycling.cyclesAgree ∧ cycling.logHasRoom) ∧
    steps cycling (.tDepExpiry 3) = true := by decide

/-- A log of two records, the next sequence number wrapping. -/
def logged : State :=
  let r (n : Nat) : LogRecord := ⟨n, none, 7, 9, 3, .paper, .deposit, 1, some 2⟩
  { cycling with log := [r 4294967295, r 0], nextSequence := 1 }

theorem witness_LogStaysInSequence : logged.logInSequence ∧ steps logged (.tDepExpiry 3) = true ∧
    (Instr.tDepExpiry 3 ≠ .powerOnReset ∧ Instr.tDepExpiry 3 ≠ .queuedCommandStart) := by decide

theorem witness_LogStaysInSequence_start : steps (waitingPort logged) .queuedCommandStart = true ∧
    (Instr.queuedCommandStart ≠ .powerOnReset ∧ ∀ len n, Instr.queuedCommandStart ≠ .releaseLog len n) ∧
    ∀ w ∈ (waitingPort logged).port.waiting.head?, ∀ len n, w.command ≠ .releaseLog len n := by
  refine ⟨by decide, ⟨by decide, fun _ _ h => by cases h⟩, fun w hw _ _ h => ?_⟩
  cases hw
  cases h

theorem witness_CyclesMatchTimersAndState : cycling.hatchesAgree ∧ steps cycling (.tDepExpiry 3) = true := by
  decide

theorem witness_BusModesAgree : ((onBus .blocked (some .quiet)).bus.modesAgree ∧ cycling.silentBusIdle ∧
    cycling.bus.modesAgree) ∧ steps cycling (.busQuiet 0) = true := by decide

theorem witness_OrdersAgree : offered.ordersAgree ∧ claimed.ordersAgree ∧
    steps claimed (.release true 52 3) = true := by decide

theorem witness_HoldsAgree : claimed.holdsAgree ∧ orphaned.holdsAgree ∧
    steps claimed .tDockExpiry = true := by decide

end Sys2Proof.Tests
end

section
/-! Which operations leave the wall clock alone: all but the minute tick, Set Clock and a power-on reset (R15, R16). -/

namespace Sys2Proof.Machine

open Sys2Proof

variable {s : State} {c : Box}

/-! ## Folds -/

/-- Operations that each leave the clock alone leave it alone one after another. -/
theorem clock_foldl {α : Type} {f : State → α → State} (h : ∀ t a, (f t a).clock = t.clock) :
    ∀ (l : List α) (s : State), (l.foldl f s).clock = s.clock
  | [], _ => rfl
  | a :: l, s => (clock_foldl h l (f s a)).trans (h s a)

/-! ## The bus -/

@[simp] theorem clock_startSlot : (startSlot s).clock = s.clock := by
  obtain ⟨_, h⟩ := startSlot_frame (s := s)
  rw [h]

@[simp] theorem clock_startCycle : (startCycle s).clock = s.clock := by
  obtain ⟨_, h⟩ := startCycle_frame (s := s)
  rw [h]

@[simp] theorem clock_nextSlot : (nextSlot s).clock = s.clock := by
  obtain ⟨_, _, h⟩ := nextSlot_frame (s := s)
  rw [h]

@[simp] theorem clock_enterQuiet : (enterQuiet s).clock = s.clock := by
  obtain ⟨_, _, h⟩ := enterQuiet_frame (s := s)
  rw [h]

@[simp] theorem clock_leaveForQuiet : (leaveForQuiet s).clock = s.clock := by
  unfold leaveForQuiet
  split
  · exact clock_enterQuiet
  · rfl

@[simp] theorem clock_resumePolling {b : BusState} : (resumePolling b s).clock = s.clock :=
  clock_startCycle

/-! ## Orders -/

@[simp] theorem clock_modOrder {f : Order → Order} : (s.modOrder c f).clock = s.clock := rfl

@[simp] theorem clock_createOrder {f : Nat → Order} : (createOrder f s).clock = s.clock := rfl

@[simp] theorem clock_bindOrder {v : Nat} : (bindOrder c v s).clock = s.clock := by
  unfold bindOrder
  split <;> rfl

@[simp] theorem clock_finishOrder {r : OrderOutcome} {cause : Option FailCause} {m : Option Nat} :
    (finishOrder c r cause m s).clock = s.clock := by
  obtain ⟨_, _, _, _, h⟩ := finishOrder_frame (s := s) (c := c) (r := r) (cause := cause) (m := m)
  rw [h]

@[simp] theorem clock_returnOrder : (returnOrder c s).clock = s.clock := by
  obtain ⟨_, _, _, _, h⟩ := returnOrder_frame (s := s) (c := c)
  rw [h]

@[simp] theorem clock_failAttempt {cause : FailCause} : (failAttempt c cause s).clock = s.clock := by
  obtain ⟨_, _, _, _, h⟩ := failAttempt_frame (s := s) (c := c) (cause := cause)
  rw [h]

@[simp] theorem clock_buildOffer {v : Nat} {fractions : BitVec 8} :
    (buildOffer v fractions s).clock = s.clock := rfl

@[simp] theorem clock_returnOffered : (returnOffered s).clock = s.clock :=
  clock_foldl (fun _ _ => clock_returnOrder) _ _

@[simp] theorem clock_abortTaken {o : Order} : (abortTaken o s).clock = s.clock := by
  unfold abortTaken
  split <;> simp

/-! ## Fill estimation -/

@[simp] theorem clock_evaluate : (evaluate c s).clock = s.clock := by
  obtain ⟨_, _, _, h⟩ := evaluate_frame (s := s) (c := c)
  rw [h]
  rfl

@[simp] theorem clock_depositVolume : (depositVolume c s).clock = s.clock :=
  clock_evaluate

@[simp] theorem clock_correct : (correct c s).clock = s.clock := by
  unfold correct
  dsimp only
  split <;> simp

@[simp] theorem clock_periodTick : (periodTick s).clock = s.clock :=
  clock_foldl (fun t c => by split <;> simp) _ _

@[simp] theorem clock_takeLevel {l : LevelReading} : (takeLevel c l s).clock = s.clock := by
  unfold takeLevel
  split
  · rfl
  · split <;> simp

/-! ## Hatch cycles -/

@[simp] theorem clock_startDemand : (startDemand c s).clock = s.clock := rfl

@[simp] theorem clock_settle {o : CycleOutcome} {k : Cycle} : (settle c o k s).clock = s.clock := by
  obtain ⟨_, _, _, h⟩ := settle_frame (s := s) (c := c) (o := o) (k := k)
  rw [h]

@[simp] theorem clock_volumeAtEnd {o : CycleOutcome} {k : Cycle} : (volumeAtEnd c o k s).clock = s.clock := by
  unfold volumeAtEnd
  split <;> simp

@[simp] theorem clock_demandAtEnd {cause : EndCause} : (demandAtEnd c cause s).clock = s.clock := by
  cases cause <;> rfl

@[simp] theorem clock_reportEndToBus : (reportEndToBus s).clock = s.clock := by
  obtain ⟨h, -, -⟩ | h := reportEndToBus_cases (s := s) <;> simp [h]

@[simp] theorem clock_endCycle {o : CycleOutcome} {cause : EndCause} : (endCycle c o cause s).clock = s.clock := by
  cases h : (s.bay c).hatch.cycle with
  | none => rw [endCycle_none h]
  | some k => simp [endCycle_some h, dropCycle]

@[simp] theorem clock_requestHatchJam : (requestHatchJam c s).clock = s.clock := by
  have hjam : (setHatchJam c s).clock = s.clock := by
    unfold setHatchJam
    split <;> simp
  unfold requestHatchJam
  dsimp only
  split
  · exact hjam
  · simp [hjam]

@[simp] theorem clock_forcedEnd : (forcedEnd c s).clock = s.clock := by
  unfold forcedEnd
  split <;> simp

@[simp] theorem clock_takeTurn : (takeTurn c s).clock = s.clock := by
  obtain ⟨k, -, -, h⟩ | h := takeTurn_cases (s := s) (c := c)
  · simp [h, confirmDeposit]
  · simp [h, strayTurn]

@[simp] theorem clock_takeTurns : ∀ (n : Nat) (s : State), (takeTurns c n s).clock = s.clock
  | 0, _ => rfl
  | n + 1, s => (clock_takeTurns n (takeTurn c s)).trans clock_takeTurn

@[simp] theorem clock_closedEnds : (closedEnds c s).clock = s.clock := by
  unfold closedEnds
  split
  · rfl
  · split <;> simp

@[simp] theorem clock_openedReport : (openedReport c s).clock = s.clock := by
  unfold openedReport
  split
  · rfl
  · split <;> simp

@[simp] theorem clock_hatchReport {h : HatchState} : (hatchReport c h s).clock = s.clock := by
  cases h <;> simp [hatchReport, meetDemand]

@[simp] theorem clock_takeHatch {returned : Bool} {u : Uplink} :
    (takeHatch c returned u s).clock = s.clock := by
  unfold takeHatch
  dsimp only
  split <;> simp

@[simp] theorem clock_enterBlocked : (enterBlocked s).clock = s.clock := by
  have hend : ∀ t d, (endBlocked t d).clock = t.clock := fun t d => by simp [endBlocked]
  simp [enterBlocked, clock_foldl hend]

/-! ## Presentations -/

@[simp] theorem clock_deny {r : DenialReason} : (deny c r s).clock = s.clock := rfl

@[simp] theorem clock_sight {k : CardRecord} : (sight c k s).clock = s.clock := by
  unfold sight
  split <;> rfl

@[simp] theorem clock_decidePresentation {card : Nat} {draining : Bool} :
    (decidePresentation c card draining s).2.clock = s.clock := by
  unfold decidePresentation
  split
  · rfl
  · split
    · simp
    · rfl
    · rfl

@[simp] theorem clock_deliver {card : Option Nat} : (deliver c card s).clock = s.clock := by
  unfold deliver
  split <;> rfl

@[simp] theorem clock_newPresentation {card : Nat} : (newPresentation c card s).clock = s.clock := by
  unfold newPresentation
  dsimp only
  split <;> simp

@[simp] theorem clock_takePresentation {card : Option Nat} : (takePresentation c card s).clock = s.clock := by
  unfold takePresentation
  dsimp only
  split
  · simp
  · split <;> simp

/-! ## Slots -/

@[simp] theorem clock_validUplink {u : Uplink} : (validUplink c u s).clock = s.clock := by
  unfold validUplink
  dsimp only
  cases u.level <;> cases (s.bay c).column.lost <;> simp [columnReturn]

@[simp] theorem clock_requestColumnLost : (requestColumnLost c s).clock = s.clock := by
  unfold requestColumnLost
  split <;> simp

@[simp] theorem clock_nonValidSlot : (nonValidSlot c s).clock = s.clock := by
  unfold nonValidSlot
  dsimp only
  split <;> simp [markLost]

@[simp] theorem clock_slotEnds {rx : SlotRx} : (slotEnds rx s).clock = s.clock := by
  have hslot : ∀ d, (handleSlot d rx s).clock = s.clock := fun d => by
    unfold handleSlot
    split <;> simp
  unfold slotEnds
  split <;> simp [hslot]

/-! ## The inlet line and the timers of a container -/

@[simp] theorem clock_wakes : (wakes s).clock = s.clock := by
  unfold wakes
  dsimp only
  split <;> simp

@[simp] theorem clock_qualifierAtTf : (qualifierAtTf s).clock = s.clock := by
  unfold qualifierAtTf
  repeat' split
  all_goals simp

@[simp] theorem clock_tfElapses : (tfElapses s).clock = s.clock := by
  unfold tfElapses
  dsimp only
  split <;> simp

@[simp] theorem clock_recovers : (recovers s).clock = s.clock := by
  obtain ⟨-, -, -, h⟩ | ⟨-, -, -, h⟩ | h := recovers_cases (s := s) <;> simp [h]

@[simp] theorem clock_closeTimerExpires : (closeTimerExpires c s).clock = s.clock := by
  unfold closeTimerExpires
  split <;> simp

@[simp] theorem clock_quiescenceExpires : (quiescenceExpires c s).clock = s.clock := by
  unfold quiescenceExpires
  split <;> simp

/-! ## The vehicle link -/

@[simp] theorem clock_restartDock {vid : Half} : (restartDock vid s).clock = s.clock := by
  obtain ⟨_, h⟩ := restartDock_frame (s := s) (vid := vid)
  rw [h]

/-- A message leaves the clock alone where its handling does. -/
theorem clock_answerMessage {vid : Half} {act : State → Handled} (h : ∀ t, (act t).state.clock = t.clock) :
    (answerMessage vid act s).clock = s.clock :=
  (h _).trans clock_restartDock

@[simp] theorem clock_turnAway {status : LinkStatus} : (turnAway status s).state.clock = s.clock := rfl

@[simp] theorem clock_markOrphans {v : Nat} {mark : Bool} : (markOrphans v mark s).clock = s.clock :=
  clock_mapBays

@[simp] theorem clock_endDock {v : Nat} : (endDock v s).clock = s.clock := by
  simp [endDock]

theorem clock_handleDock {fits : Bool} {vid : Half} {fractions : Byte} :
    (handleDock fits vid fractions s).state.clock = s.clock := by
  unfold handleDock
  repeat' split
  all_goals simp [dockVehicle]

theorem clock_handleRefresh {fits : Bool} {vid : Half} : (handleRefresh fits vid s).state.clock = s.clock := by
  unfold handleRefresh
  repeat' split
  all_goals simp

theorem clock_handleStatus {fits : Bool} {vid : Half} : (handleStatus fits vid s).state.clock = s.clock := by
  unfold handleStatus
  split <;> rfl

theorem clock_handleUndock {fits : Bool} {vid : Half} : (handleUndock fits vid s).state.clock = s.clock := by
  unfold handleUndock
  repeat' split
  all_goals simp

theorem clock_handleClaim {fits : Bool} {vid : Half} {c : Byte} :
    (handleClaim fits vid c s).state.clock = s.clock := by
  unfold handleClaim
  repeat' split
  all_goals simp [takeClaim]

theorem clock_handleLift {fits : Bool} {vid : Half} {c : Byte} {outcome : LiftCode} {mass : Half} :
    (handleLift fits vid c outcome mass s).state.clock = s.clock := by
  unfold handleLift
  repeat' split
  all_goals simp [reportEmptied, emptiedResult, reportPartial, partialResult]

theorem clock_handleRelease {fits : Bool} {vid : Half} {c : Byte} :
    (handleRelease fits vid c s).state.clock = s.clock := by
  unfold handleRelease
  repeat' split
  all_goals simp [releaseClaim, apply_ite State.clock]

/-! ## Commands of one container -/

theorem clock_withLength {len : Byte} {n : Nat} {carry : State → Carried}
    (h : (carry s).state.clock = s.clock) : (withLength len n carry s).state.clock = s.clock := by
  by_cases hl : len.toNat = n
  · rwa [withLength_eq hl]
  · rw [withLength_ne hl]
    rfl

theorem clock_withBox {b : Byte} {carry : Box → State → Carried}
    (h : ∀ c, (carry c s).state.clock = s.clock) : (withBox b carry s).state.clock = s.clock := by
  unfold withBox
  split
  · rfl
  · exact h _

@[simp] theorem clock_answer {status : Status} {data : RespData} :
    (answer status data s).state.clock = s.clock := rfl

@[simp] theorem clock_refuse {status : Status} : (refuse status s).state.clock = s.clock := rfl

@[simp] theorem clock_applyPresence {old new : ContainerConfig} :
    (applyPresence c old new s).clock = s.clock := by
  unfold applyPresence
  split <;> rfl

@[simp] theorem clock_storeConfig {new : ContainerConfig} : (storeConfig c new s).clock = s.clock := by
  unfold storeConfig
  dsimp only
  repeat' split
  all_goals simp

theorem clock_writeConfig {p : ContainerParams} : (writeConfig p c s).state.clock = s.clock := by
  unfold writeConfig
  dsimp only
  repeat' split
  all_goals simp

theorem clock_startBox : (startBox c s).state.clock = s.clock := by
  unfold startBox
  split <;> simp

theorem clock_retireBox : (retireBox c s).state.clock = s.clock := by
  unfold retireBox
  dsimp only
  split <;> simp [retireTaken]

theorem clock_serviceHoldOnBox : (serviceHoldOnBox c s).state.clock = s.clock := by
  unfold serviceHoldOnBox
  dsimp only
  repeat' split
  all_goals simp

theorem clock_serviceHoldOffBox : (serviceHoldOffBox c s).state.clock = s.clock := by
  unfold serviceHoldOffBox
  split <;> simp

theorem clock_releaseOrphanBox : (releaseOrphanBox c s).state.clock = s.clock := by
  unfold releaseOrphanBox
  repeat' split
  all_goals simp [releaseOrphanTaken, apply_ite State.clock]

theorem clock_clearFaultBox : (clearFaultBox c s).state.clock = s.clock := by
  unfold clearFaultBox
  dsimp only
  repeat' split
  all_goals simp

theorem clock_postOrderBox {priority : Byte} {label : Half} {oneShot : Byte} :
    (postOrderBox priority label oneShot c s).state.clock = s.clock := by
  unfold postOrderBox
  dsimp only
  repeat' split
  all_goals simp

end Sys2Proof.Machine
end

section
/-! The wall clock under every event and command: no event but a power-on reset clears the clock-set flag (R16), and what
the three clock commands answer and change (R16, R18, R92). -/

namespace Sys2Proof.Machine

open Sys2Proof

variable {s : State}

/-! ## Commands that leave the clock alone -/

theorem clock_busQuiets : (busQuiets s).clock = s.clock := by
  unfold busQuiets
  split <;> simp

theorem clock_busActivates : (busActivates s).clock = s.clock := by
  unfold busActivates
  split <;> simp

theorem clock_serviceResets : (serviceResets s).clock = s.clock := by
  have hcut : ∀ t d, (endCut t d).clock = t.clock := fun _ _ => clock_endCycle
  have hreset : ∀ t d, (endReset t d).clock = t.clock := fun _ _ => clock_finishOrder
  simp [serviceResets, resetDisplays, resetWindows, resetBus, resetHolds, resetOrders, resetCycles,
    clock_foldl hcut, clock_foldl hreset]

theorem clock_carryWriteDistrictSettings {len : Byte} {p : DistrictParams} :
    (carryWriteDistrictSettings len p s).state.clock = s.clock :=
  clock_withLength (by dsimp only; split <;> rfl)

theorem clock_carryInsertCard {len : Byte} {card : Quad} {p : CardParams} :
    (carryInsertCard len card p s).state.clock = s.clock :=
  clock_withLength (by
    repeat' split
    all_goals rfl)

theorem clock_carryUpdateCard {len : Byte} {card : Quad} {p : CardParams} :
    (carryUpdateCard len card p s).state.clock = s.clock :=
  clock_withLength (by
    repeat' split
    all_goals rfl)

theorem clock_carryRemoveCard {len : Byte} {card : Quad} : (carryRemoveCard len card s).state.clock = s.clock :=
  clock_withLength (by
    repeat' split
    all_goals rfl)

theorem clock_carryReadCard {len : Byte} {card : Quad} {mode : Byte} :
    (carryReadCard len card mode s).state.clock = s.clock :=
  clock_withLength (by split <;> rfl)

theorem clock_carryAbortOrder {len : Byte} {number : Half} :
    (carryAbortOrder len number s).state.clock = s.clock :=
  clock_withLength (by split <;> simp)

theorem clock_carryServiceReset {len : Byte} : (carryServiceReset len s).state.clock = s.clock := by
  unfold carryServiceReset
  exact clock_withLength (clock_answer.trans clock_serviceResets)

/-- Set Clock sets the flag, or is refused and leaves the clock alone. -/
theorem clock_carrySetClock {len : Byte} {minute week : Half} :
    (carrySetClock len minute week s).state.clock.set = true ∨
    (carrySetClock len minute week s).state.clock = s.clock := by
  by_cases hl : len.toNat = 4
  · rw [carrySetClock, withLength_eq hl]
    split
    · exact .inr rfl
    · exact .inl rfl
  · rw [carrySetClock, withLength_ne hl]
    exact .inr rfl

/-- Of the commands carried out, Set Clock alone touches the clock. -/
theorem clock_carryOut {i : Instr} (h : ∀ len minute week, i ≠ .setClock len minute week) :
    (carryOut i s).state.clock = s.clock := by
  cases i with
  | setClock len minute week => exact absurd rfl (h len minute week)
  | writeDistrictSettings => exact clock_carryWriteDistrictSettings
  | insertCard => exact clock_carryInsertCard
  | updateCard => exact clock_carryUpdateCard
  | removeCard => exact clock_carryRemoveCard
  | readCard => exact clock_carryReadCard
  | abortOrder => exact clock_carryAbortOrder
  | writeContainerConfig => exact clock_withLength (clock_withBox fun _ => clock_writeConfig)
  | start => exact clock_withLength (clock_withBox fun _ => clock_startBox)
  | retire => exact clock_withLength (clock_withBox fun _ => clock_retireBox)
  | resetEstimate => exact clock_withLength (clock_withBox fun _ => clock_answer.trans clock_evaluate)
  | postOrder => exact clock_withLength (clock_withBox fun _ => clock_postOrderBox)
  | serviceHoldOn => exact clock_withLength (clock_withBox fun _ => clock_serviceHoldOnBox)
  | serviceHoldOff => exact clock_withLength (clock_withBox fun _ => clock_serviceHoldOffBox)
  | releaseOrphan => exact clock_withLength (clock_withBox fun _ => clock_releaseOrphanBox)
  | clearFault => exact clock_withLength (clock_withBox fun _ => clock_clearFaultBox)
  | readContainerConfig | readContainerStatus | adjustEstimate =>
    exact clock_withLength (clock_withBox fun _ => rfl)
  | busQuiet => exact clock_withLength (clock_answer.trans clock_busQuiets)
  | busActive => exact clock_withLength (clock_answer.trans clock_busActivates)
  | serviceReset => exact clock_carryServiceReset
  | noOp | readDistrictSettings | readClock | triggerRollover | peekLog | releaseLog | readOrders | readHistory
  | readBusFlags | clearBusFlags | readAttention | clearAttention | maskAttention | readDenialCounters =>
    exact clock_withLength rfl
  | _ => rfl

/-! ## The clock-set flag -/

/-- No command carried out clears the clock-set flag. -/
theorem clockSet_carryOut {i : Instr} (hs : s.clock.set = true) : (carryOut i s).state.clock.set = true := by
  by_cases h : ∃ len minute week, i = .setClock len minute week
  · obtain ⟨len, minute, week, rfl⟩ := h
    obtain h | h := clock_carrySetClock (s := s) (len := len) (minute := minute) (week := week)
    · exact h
    · exact (congrArg Clock.set h).trans hs
  · rw [clock_carryOut fun len minute week hi => h ⟨len, minute, week, hi⟩]
    exact hs

/-- A command of the port is taken, to be carried out at once or as it waits. -/
theorem exec_of_isPortCommand {i : Instr} (h : isPortCommand i = true) :
    exec i s = .next (takeCommand i (carryOut i) s) := by
  cases i <;> cases h <;> rfl

/-- A command taken is carried out at once, or leaves everything but the port as it is. -/
theorem clock_takeCommand {i : Instr} {carry : State → Carried} :
    (takeCommand i carry s).clock = (carry (noteTaken s)).state.clock ∨
    (takeCommand i carry s).clock = s.clock := by
  cases h : portFree s.port with
  | true => exact .inl (by rw [takeCommand_free h]; rfl)
  | false => exact .inr (by rw [takeCommand_busy h])

theorem clockSet_takeCommand {i : Instr} (hs : s.clock.set = true) :
    (takeCommand i (carryOut i) s).clock.set = true := by
  obtain h | h := clock_takeCommand (s := s) (i := i) (carry := carryOut i)
  · rw [h]
    exact clockSet_carryOut hs
  · rwa [h]

theorem clockSet_startQueued (hs : s.clock.set = true) : (startQueued s).clock.set = true := by
  obtain ⟨w, rest, -, -, h⟩ | ⟨-, h⟩ := startQueued_cases (s := s)
  · rw [h]
    exact clockSet_carryOut hs
  · rwa [h]

/-- A minute tick moves the clock on, whatever tick comes with it. -/
theorem clock_minuteTicks : (minuteTicks s).clock = nextMinute s.clock := by
  unfold minuteTicks rollover
  dsimp only
  repeat' split
  all_goals simp

theorem set_nextMinute {k : Clock} : (nextMinute k).set = k.set := by
  unfold nextMinute
  split <;> rfl

/-- Every event but a power-on reset keeps a set clock-set flag: Set Clock sets it, a minute tick moves the minute and
the week alone, and nothing else touches the clock (R15, R16). -/
theorem clockSet_exec {i : Instr} (hi : i ≠ .powerOnReset) (hs : s.clock.set = true) :
    ∃ t, exec i s = .next t ∧ t.clock.set = true := by
  have keeps {t : State} (h : t.clock = s.clock) : t.clock.set = true := by rwa [h]
  cases i with
  | powerOnReset => exact absurd rfl hi
  | queuedCommandStart => exact ⟨_, rfl, clockSet_startQueued hs⟩
  | minuteTick => exact ⟨_, rfl, by rwa [clock_minuteTicks, set_nextMinute]⟩
  | selectFall | frameEnd | commandCompletion | lineEdge | wakeWindowExpiry | denialDisplayExpiry
  | vehicleFrameDiscarded | deassertTimerExpiry => exact ⟨_, rfl, keeps rfl⟩
  | slotEnd => exact ⟨_, rfl, keeps clock_slotEnds⟩
  | wakeTfElapsed => exact ⟨_, rfl, keeps clock_tfElapses⟩
  | stuckLineDetected => exact ⟨_, rfl, keeps (by split <;> simp)⟩
  | blockedRecovery => exact ⟨_, rfl, keeps clock_recovers⟩
  | tInactExpiry => exact ⟨_, rfl, keeps (by split <;> simp)⟩
  | tOwExpiry => exact ⟨_, rfl, keeps (by split <;> simp)⟩
  | tDepExpiry => exact ⟨_, rfl, keeps (by split <;> simp)⟩
  | tClExpiry => exact ⟨_, rfl, keeps clock_closeTimerExpires⟩
  | tQExpiry => exact ⟨_, rfl, keeps clock_quiescenceExpires⟩
  | tDockExpiry => exact ⟨_, rfl, keeps (by split <;> simp)⟩
  | unknownMessage => exact ⟨_, rfl, keeps (clock_answerMessage fun _ => clock_turnAway)⟩
  | dock => exact ⟨_, rfl, keeps (clock_answerMessage fun _ => clock_handleDock)⟩
  | refresh => exact ⟨_, rfl, keeps (clock_answerMessage fun _ => clock_handleRefresh)⟩
  | status => exact ⟨_, rfl, keeps (clock_answerMessage fun _ => clock_handleStatus)⟩
  | undock => exact ⟨_, rfl, keeps (clock_answerMessage fun _ => clock_handleUndock)⟩
  | claim => exact ⟨_, rfl, keeps (clock_answerMessage fun _ => clock_handleClaim)⟩
  | liftReport => exact ⟨_, rfl, keeps (clock_answerMessage fun _ => clock_handleLift)⟩
  | release => exact ⟨_, rfl, keeps (clock_answerMessage fun _ => clock_handleRelease)⟩
  | _ => exact ⟨_, exec_of_isPortCommand rfl, clockSet_takeCommand hs⟩

/-! ## The clock commands on a free port -/

/-- On a free port a command of the port is carried out at once. -/
theorem exec_of_portIsFree {i : Instr} (h : isPortCommand i = true) (hs : s.portIsFree) :
    exec i s = .next (carryNow (carryOut i) (noteTaken s)) := by
  rw [exec_of_isPortCommand h, takeCommand_free (portFree_iff.2 hs)]

/-- A minute past the week refuses Set Clock whole (R16). -/
theorem exec_setClock_refused {minute week : Half} (hs : s.portIsFree) (h : 10079 < minute.toNat) :
    exec (.setClock 4 minute week) s = .next (answered s .badCommand .nothing) := by
  have hc : carryOut (.setClock 4 minute week) (noteTaken s) = refuse .badCommand (noteTaken s) := by
    rw [carryOut, carrySetClock, withLength_eq (len := 4) (n := 4) rfl, if_pos h]
  rw [exec_of_portIsFree rfl hs, carryNow, hc]
  rfl

/-- Set Clock stores the carried values as they are, the flag set and no tick produced (R16). -/
theorem exec_setClock_taken {minute week : Half} (hs : s.portIsFree) (h : minute.toNat ≤ 10079) :
    exec (.setClock 4 minute week) s = .next (answered
      { s with clock := { subMinute := 0, minute := minute.toNat, week := week.toNat, set := true } }
      .ok .nothing) := by
  have hc : carryOut (.setClock 4 minute week) (noteTaken s) = answer .ok .nothing
      { noteTaken s with
        clock := { subMinute := 0, minute := minute.toNat, week := week.toNat, set := true } } := by
    rw [carryOut, carrySetClock, withLength_eq (len := 4) (n := 4) rfl, if_neg (Nat.not_lt.2 h)]
  rw [exec_of_portIsFree rfl hs, carryNow, hc]
  rfl

theorem exec_readClock (hs : s.portIsFree) :
    exec (.readClock 0) s = .next (answered s .ok (.clock s.clock.minute s.clock.week s.clock.set)) :=
  exec_of_portIsFree rfl hs

theorem exec_triggerRollover (hs : s.portIsFree) :
    exec (.triggerRollover 0) s = .next (answered
      { s with cards := s.cards.map fun k => { k with remaining := s.settings.plans[k.plan] } }
      .ok .nothing) :=
  exec_of_portIsFree rfl hs

/-- Settles O9: the four answers on a free port, the clock-set flag kept by every event but the power-on reset, event by
event, and the reset that clears it. -/
theorem clockCommandsSetAndRead : Obligations.ClockCommandsSetAndRead := by
  unfold Obligations.ClockCommandsSetAndRead
  refine ⟨fun s hs => ⟨fun _ _ => exec_setClock_refused hs, fun _ _ => exec_setClock_taken hs,
    exec_readClock hs, exec_triggerRollover hs⟩, fun i s t hi hset h => ?_, fun s => ⟨_, rfl, rfl⟩⟩
  obtain ⟨u, hu, huset⟩ := clockSet_exec hi hset
  obtain rfl : u = t := Host.Outcome.next.inj (hu.symm.trans h)
  exact huset

end Sys2Proof.Machine
end

section
/-! The sticky bus flags and the attention items bit by bit, and what the commands that read and clear them answer and
change on a free port (R34, R196, R197). -/

namespace Sys2Proof.Machine

open Sys2Proof

variable {s t : State}

/-! ## Bits -/

/-- A bit of a register after the bit at `k` is set in it. -/
theorem getLsbD_or_twoPow {n j k : Nat} {x : BitVec n} (hj : j < n) :
    (x ||| BitVec.twoPow n k).getLsbD j = (x.getLsbD j || decide (j = k)) := by
  rw [BitVec.getLsbD_or, BitVec.getLsbD_twoPow]
  congr 1
  by_cases h : j = k
  · simp [← h, hj]
  · simp [h, Ne.symm h]

/-- A bit of a register after the bits requested are cleared in it; requests past the register count for nothing. -/
theorem getLsbD_and_not_setWidth {n m j : Nat} {x : BitVec n} {requests : BitVec m} (hj : j < n) :
    (x &&& ~~~ requests.setWidth n).getLsbD j = (x.getLsbD j && !requests.getLsbD j) := by
  simp [hj]

theorem busFlagBit_lt {f : BusFlag} : busFlagBit f < 6 := by
  cases f <;> decide

theorem itemBit_lt {i : Item} : itemBit i < 10 := by
  cases i <;> decide

/-- To set a flag sets its bit and no other (R33). -/
theorem getLsbD_setBusFlag {f : BusFlag} {j : Nat} (hj : j < 6) :
    (setBusFlag f s).bus.flags.getLsbD j = (s.bus.flags.getLsbD j || decide (j = busFlagBit f)) :=
  getLsbD_or_twoPow hj

/-- To raise an item sets its bit and no other (R195). -/
theorem getLsbD_raise {i : Item} {j : Nat} (hj : j < 10) :
    (raise i s).port.items.getLsbD j = (s.port.items.getLsbD j || decide (j = itemBit i)) := by
  rw [items_raise, getLsbD_or_twoPow hj]

theorem getLsbD_setBusFlag_self {f : BusFlag} : (setBusFlag f s).bus.flags.getLsbD (busFlagBit f) = true := by
  simp [getLsbD_setBusFlag busFlagBit_lt]

theorem getLsbD_raise_self {i : Item} : (raise i s).port.items.getLsbD (itemBit i) = true := by
  simp [getLsbD_raise itemBit_lt]

/-! ## The line and the marks of a taken command -/

/-- The line does not depend on the marks of a taken command. -/
theorem followLine_marks {p : Port} {d : Bool} {f : Frame} :
    followLine { p with discarded := d, frame := f } = { followLine p with discarded := d, frame := f } := by
  have hc (l : AttentionLine) :
      attentionCondition { p with discarded := d, frame := f, line := l } = attentionCondition p :=
    attentionCondition_congr rfl rfl
  cases h : p.line <;> cases hp : attentionCondition p <;> simp [followLine, h, hp, hc]

theorem clearItems_noteTaken {requests : Half} :
    clearItems requests (noteTaken s) = noteTaken (clearItems requests s) :=
  congrArg (fun p => { s with port := p })
    (followLine_marks (p := { s.port with items := s.port.items &&& ~~~ requests.setWidth 10 }))

theorem replaceMask_noteTaken {enables : Half} :
    replaceMask enables (noteTaken s) = noteTaken (replaceMask enables s) :=
  congrArg (fun p => { s with port := p }) (followLine_marks (p := { s.port with mask := enables.setWidth 10 }))

/-! ## The commands on a free port -/

/-- A command that, once noted as taken, answers in a state with that same note leaves the response in hand. -/
theorem exec_eq_answered {i : Instr} {status : Status} {data : RespData} (hi : isPortCommand i = true)
    (hs : s.portIsFree) (hc : carryOut i (noteTaken s) = answer status data (noteTaken t)) :
    exec i s = .next (answered t status data) := by
  rw [exec_of_portIsFree hi hs, carryNow, hc]
  rfl

/-- Only a Blocked bus has a target to show (R34). -/
theorem target_eq_ite (h : s.bus.modesAgree) :
    s.bus.target = if s.bus.state = .blocked then s.bus.target else none := by
  obtain ⟨htarget, -, -, -⟩ := h
  split
  next => rfl
  next hb => exact Option.not_isSome_iff_eq_none.1 fun hsome => hb (htarget.1 hsome)

theorem exec_readBusFlags (hs : s.portIsFree) (hm : s.bus.modesAgree) :
    exec (.readBusFlags 0) s = .next (answered s .ok
      (.busFlags s.bus.state (if s.bus.state = .blocked then s.bus.target else none) s.bus.counter
        s.bus.flags)) := by
  rw [← target_eq_ite hm]
  exact exec_eq_answered rfl hs rfl

theorem exec_clearBusFlags {requests : Byte} (hs : s.portIsFree) :
    exec (.clearBusFlags 1 requests) s = .next (answered
      { s with bus := { s.bus with flags := s.bus.flags &&& ~~~ requests.setWidth 6 } }
      .ok (.flags s.bus.flags)) :=
  exec_eq_answered rfl hs rfl

/-- The line is low exactly in Asserted (R198). -/
theorem lineLevel_eq_ite {line : AttentionLine} : lineLevel line = if line = .asserted then .low else .high := by
  cases line <;> rfl

theorem exec_readAttention (hs : s.portIsFree) :
    exec (.readAttention 0) s = .next (answered s .ok
      (.attention s.port.items s.port.mask (if s.port.line = .asserted then .low else .high))) := by
  rw [← lineLevel_eq_ite]
  exact exec_eq_answered rfl hs rfl

theorem exec_clearAttention {requests : Half} (hs : s.portIsFree) :
    exec (.clearAttention 2 requests) s = .next (answered (clearItems requests s) .ok (.items s.port.items)) :=
  exec_eq_answered rfl hs (congrArg (answer .ok (.items s.port.items)) clearItems_noteTaken)

theorem exec_maskAttention {enables : Half} (hs : s.portIsFree) :
    exec (.maskAttention 2 enables) s = .next (answered (replaceMask enables s) .ok (.mask s.port.mask)) :=
  exec_eq_answered rfl hs (congrArg (answer .ok (.mask s.port.mask)) replaceMask_noteTaken)

/-! ## The registers after the commands -/

theorem items_clearItems {requests : Half} :
    (clearItems requests s).port.items = s.port.items &&& ~~~ requests.setWidth 10 :=
  items_followLine

theorem mask_replaceMask {enables : Half} : (replaceMask enables s).port.mask = enables.setWidth 10 :=
  mask_followLine

theorem getLsbD_clearItems {requests : Half} {j : Nat} (hj : j < 10) :
    (clearItems requests s).port.items.getLsbD j = (s.port.items.getLsbD j && !requests.getLsbD j) := by
  rw [items_clearItems, getLsbD_and_not_setWidth hj]

theorem getLsbD_replaceMask {enables : Half} {j : Nat} (hj : j < 10) :
    (replaceMask enables s).port.mask.getLsbD j = enables.getLsbD j := by
  simp [mask_replaceMask, hj]

/-- Clear Attention changes the items, and the line that follows them. -/
theorem clearItems_eq {requests : Half} : clearItems requests s =
    { s with port := followLine { s.port with items := (clearItems requests s).port.items } } := by
  rw [items_clearItems]
  rfl

/-- Mask Attention changes the mask, and the line that follows it. -/
theorem replaceMask_eq {enables : Half} : replaceMask enables s =
    { s with port := followLine { s.port with mask := (replaceMask enables s).port.mask } } := by
  rw [mask_replaceMask]
  rfl

/-- Settles O32: each command on a free port by its equation, its register read bit by bit, and an event after a clear
by the bit it sets. -/
theorem flagAndAttentionCommands : Obligations.FlagAndAttentionCommands := by
  unfold Obligations.FlagAndAttentionCommands
  refine ⟨fun f => by cases f <;> rfl, fun f s => ⟨rfl, fun j => getLsbD_setBusFlag j.isLt⟩, fun s hs hm =>
    ⟨exec_readBusFlags hs hm, fun requests => ?_, exec_readAttention hs, fun requests => ?_, fun enables => ?_⟩⟩
  · exact ⟨_, exec_clearBusFlags hs, rfl, fun i => getLsbD_and_not_setWidth i.isLt,
      fun _ => getLsbD_setBusFlag_self⟩
  · exact ⟨_, exec_clearAttention hs, congrArg (answered · .ok (.items s.port.items)) clearItems_eq,
      fun i => getLsbD_clearItems i.isLt, fun _ => getLsbD_raise_self⟩
  · exact ⟨_, exec_maskAttention hs, congrArg (answered · .ok (.mask s.port.mask)) replaceMask_eq,
      fun i => getLsbD_replaceMask i.isLt⟩

end Sys2Proof.Machine
end

section
/-! The operating state, the curfew, and the eleven checks of a presentation: what each reads, and the decision as the
first check that fails (R12, R20, R72 to R76). -/

namespace Sys2Proof.Machine

open Sys2Proof

variable {s : State} {c : Box} {k : CardRecord} {card : Nat} {draining : Bool}

/-! ## The operating state and the curfew -/

theorem requested_iff {h : Hold} : h.requested = true ↔ h.service = true ∨ h.emptying ≠ none := by
  simp [Hold.requested, Option.isSome_iff_ne_none]

theorem cycleActive_iff {b : Bay} : b.cycleActive = true ↔ b.hatch.cycle ≠ none :=
  Option.isSome_iff_ne_none

/-- The six rows of R12 over the fields themselves. -/
theorem opState_eq_ite {b : Bay} : opState b =
    if b.record.started = false then .dormant
    else if b.hold.service = true ∨ b.hold.emptying ≠ none then
      (if b.hatch.cycle ≠ none then .quiescing else .held)
    else if b.record.fault ≠ .none then .inFault
    else if b.est.closeFlag = true then .fullClosed
    else .opened := by
  simp only [opState, requested_iff, cycleActive_iff, Bool.not_eq_true', bne_iff_ne]

/-- The window holds its start and not its end, runs over midnight where the end lies before the start, and is empty
where they are equal (R20). -/
theorem underCurfew_iff {f : Fraction} :
    let w := s.settings.curfew[fractionCode f]
    let m := s.clock.minute % 1440
    underCurfew s f = true ↔ s.clock.set = true ∧
      (w.start < w.stop ∧ w.start ≤ m ∧ m < w.stop ∨ w.stop < w.start ∧ (w.start ≤ m ∨ m < w.stop)) := by
  dsimp only
  rw [underCurfew, Bool.and_eq_true]
  refine and_congr_right fun _ => ?_
  generalize s.settings.curfew[fractionCode f] = w
  rcases lt_trichotomy w.start w.stop with hday | hempty | hnight
  · simp [hday, hday.not_gt]
  · simp [hempty]
  · simp [hnight, hnight.not_gt]

/-! ## A list of checks -/

@[simp] theorem firstFailing_nil : firstFailing [] = none := rfl

/-- A check that fails decides; one that passes leaves the decision to the checks after it (R72). -/
@[simp] theorem firstFailing_cons {fails : Bool} {r : DenialReason} {rest : List (Bool × DenialReason)} :
    firstFailing ((fails, r) :: rest) = if fails = true then some r else firstFailing rest := by
  cases fails <;> rfl

/-! ## The eleven checks -/

/-- The card check fails for the two statuses other than Active (R73). -/
theorem status_ne_active_iff {t : CardStatus} : t ≠ .active ↔ t = .suspended ∨ t = .lost := by
  cases t <;> decide

/-- The service check fails in four operating states, and in every state under the draining mark (R74). -/
theorem outOfService_iff {b : Bay} : outOfService b draining = true ↔
    opState b = .dormant ∨ opState b = .quiescing ∨ opState b = .held ∨ opState b = .inFault ∨ draining = true := by
  unfold outOfService
  cases opState b <;> simp

/-- An unknown card fails the first check. -/
theorem firstFailing_unknown (h : s.cardOf card = none) :
    firstFailing (presentationChecks s c card k draining) = some .unknownCard := by
  simp [presentationChecks, h]

/-- A known card passes the first check, and the ten after it are those of its record. -/
theorem firstFailing_known (h : s.cardOf card = some k) :
    firstFailing (presentationChecks s c card k draining) = denialOfKnown s c k draining := by
  obtain ⟨-, rfl⟩ := mem_of_cardOf h
  simp only [presentationChecks, firstFailing_cons, firstFailing_nil, h, denialOfKnown, status_ne_active_iff,
    outOfService_iff, cycleActive_iff, decide_eq_true_eq, Bool.not_eq_true', List.contains_iff_mem, reduceCtorEq,
    if_false]

/-! ## The decision -/

theorem code_decidePresentation_unknown (h : s.cardOf card = none) :
    (decidePresentation c card draining s).1 = .denied .unknownCard := by
  simp [decidePresentation, h]

/-- The sighting of a Lost card changes the state and not the code (R78). -/
theorem code_decidePresentation_known (h : s.cardOf card = some k) :
    (decidePresentation c card draining s).1 =
      match denialOfKnown s c k draining with
      | some r => .denied r
      | none => .granted := by
  simp only [decidePresentation, h]
  cases denialOfKnown s c k draining with
  | none => rfl
  | some r => cases r <;> rfl

/-- Settles O39: the operating state and the curfew from their rules, and the decision for an unknown card by the first
check, for a known card by the ten after it. -/
theorem decisionFollowsTheChecks : Obligations.DecisionFollowsTheChecks := by
  unfold Obligations.DecisionFollowsTheChecks
  refine ⟨fun _ => opState_eq_ite, fun f => by cases f <;> rfl, fun _ _ => underCurfew_iff, fun _ _ => rfl,
    fun _ _ => rfl, fun s c card draining k h => ?_⟩
  rcases h with hknown | hunknown
  · rw [firstFailing_known hknown]
    exact code_decidePresentation_known hknown
  · rw [code_decidePresentation_unknown hunknown, firstFailing_unknown hunknown]

end Sys2Proof.Machine
end

section
/-! The reads of the deposit log and of the history on a free port: how many records each returns or removes, and the
status where the number asked for was cut (R98, R99, R164). -/

namespace Sys2Proof.Machine

open Sys2Proof

variable {s : State} {n : Byte}

/-- The status of a command that cuts its carried value exactly where `p` holds (R191). -/
theorem okIf_decide {p : Prop} [Decidable p] : okIf (decide p) = if p then .okClamped else .ok := by
  by_cases hp : p <;> simp [okIf, hp]

/-- Peek Log reads at most 16 records and leaves the log as it is (R98). -/
theorem exec_peekLog (hs : s.portIsFree) :
    exec (.peekLog 1 n) s = .next (answered s (if 16 < n.toNat then .okClamped else .ok)
      (.logPeek (s.log.take (min n.toNat 16)) s.log.length s.reserved (s.log.head?.map LogRecord.sequence))) := by
  rw [← okIf_decide]
  exact exec_eq_answered rfl hs rfl

/-- Release Log drops the oldest records, as many as asked for or as there are (R99). -/
theorem exec_releaseLog (hs : s.portIsFree) :
    let count := min n.toNat s.log.length
    exec (.releaseLog 1 n) s = .next (answered { s with log := s.log.drop count }
      (if s.log.length < n.toNat then .okClamped else .ok) (.logReleased count (s.log.length - count))) := by
  intro count
  rw [← okIf_decide]
  exact exec_eq_answered rfl hs rfl

/-- Read History takes at most 8 of the oldest entries and clears Wrapped, which it returns as it was (R164). -/
theorem exec_readHistory (hs : s.portIsFree) :
    let count := min (min n.toNat 8) s.history.length
    exec (.readHistory 1 n) s = .next (answered { s with history := s.history.drop count, wrapped := false }
      (if 8 < n.toNat then .okClamped else .ok)
      (.historyRead (s.history.length - count) s.wrapped (s.history.take count))) := by
  intro count
  rw [← okIf_decide]
  exact exec_eq_answered rfl hs rfl

/-- Settles O17: each command carried out at once on the free port, its status from whether the number was cut. -/
theorem logAndHistoryReads : Obligations.LogAndHistoryReads := by
  unfold Obligations.LogAndHistoryReads
  exact fun _ _ hs => ⟨exec_peekLog hs, exec_releaseLog hs, exec_readHistory hs⟩

end Sys2Proof.Machine
end

section
/-! Deposit volumes one after another: what the fraction of a litre carried on makes of their sum (R105). -/

namespace Sys2Proof.Machine

open Sys2Proof

/-- Litres counted volume by volume, the fraction carried on, are the litres of the whole sum. -/
theorem litres_carried (x a : Nat) : a / 256 + (x + a % 256) / 256 = (x + a) / 256 := by
  omega

/-- Deposit volumes one after another, from a record within its ceiling, are one deposit of their sum (R105). -/
theorem iterate_addVolume {k : ContainerConfig} {e : Estimate} (hrem : e.rem ≤ 255) (hvolume : e.volume ≤ 65535)
    (hfill : e.fill ≤ ceiling k) (n : Nat) :
    (addVolume k)^[n] e =
      { e with
        fill := min (ceiling k) (e.fill + (n * (k.drum * e.bulk) + e.rem) / 256)
        rem := (n * (k.drum * e.bulk) + e.rem) % 256
        volume := min 65535 (e.volume + n * k.drum) } := by
  induction n with
  | zero =>
    have hdiv : e.rem / 256 = 0 := Nat.div_eq_of_lt (by omega)
    have hmod : e.rem % 256 = e.rem := Nat.mod_eq_of_lt (by omega)
    simp [hdiv, hmod, hvolume, hfill]
  | succ n ih =>
    have hsum : (n + 1) * (k.drum * e.bulk) + e.rem = k.drum * e.bulk + (n * (k.drum * e.bulk) + e.rem) := by ring
    have hdrums : e.volume + (n + 1) * k.drum = e.volume + n * k.drum + k.drum := by ring
    have hlitres := litres_carried (k.drum * e.bulk) (n * (k.drum * e.bulk) + e.rem)
    rw [Function.iterate_succ_apply', ih, hsum, hdrums]
    simp only [addVolume, Nat.add_mod_mod, Estimate.mk.injEq, true_and, and_true]
    constructor <;> omega

/-- Settles O19: the evaluation after each volume by definition, the sum by induction on the number of volumes. -/
theorem depositVolumesAddExactly : Obligations.DepositVolumesAddExactly := by
  unfold Obligations.DepositVolumesAddExactly
  exact ⟨fun _ _ => rfl, fun _ _ n hrem hvolume hfill => iterate_addVolume hrem hvolume hfill n⟩

end Sys2Proof.Machine
end

section
/-! The steps of a period correction, measured and unmeasured, each as one equation over the record it is given, and
the record after all of them (R111 to R119, R130). -/

namespace Sys2Proof.Machine

open Sys2Proof

variable {k : ContainerConfig} {e : Estimate} {m : Nat}

/-- The measurement pairs with the one before it: it lies higher, and enough volume came between (R114). -/
abbrev Paired (k : ContainerConfig) (m : Nat) (e : Estimate) : Prop :=
  ∃ p ∈ e.mPrev, p < m ∧ k.vmin ≤ e.volume

/-- The rate step of a measurement, before its limit (R114). -/
abbrev rateStepTo (m : Nat) (e : Estimate) : Int :=
  rateStep (observedBulk (m - e.mPrev.getD 0) e.volume) e.bulk

/-- The difference of the measurement and E lies within the offset limit (R115). -/
abbrev Near (k : ContainerConfig) (m : Nat) (e : Estimate) : Prop :=
  e.fill ≤ m + k.omax ∧ m ≤ e.fill + k.omax

/-- Only a step outside the limit is changed by it. -/
theorem limitStep_ne_iff {limit : Nat} {step : Int} :
    limitStep limit step ≠ step ↔ ¬ (-(limit : Int) ≤ step ∧ step ≤ limit) := by
  refine not_congr ⟨fun h => ?_, fun ⟨hlow, hhigh⟩ => limitStep_of_le hlow hhigh⟩
  rw [← h]
  exact limitStep_bounds

/-! ## The steps of a measured correction -/

/-- Step 2, its flags cleared before it: the bulk factor moves where the measurements pair (R114). -/
theorem stepRate_some (hrate : e.rateLimit = false) (hmissing : e.missingRate = false) :
    stepRate k (some m) e =
      { e with
        bulk := if Paired k m e then
            clampTo 64 512 ((e.bulk : Int) + limitStep k.kmax (rateStepTo m e)).toNat
          else e.bulk
        rateLimit := decide (Paired k m e ∧ ¬ (-(k.kmax : Int) ≤ rateStepTo m e ∧ rateStepTo m e ≤ k.kmax))
        missingRate := decide (¬ Paired k m e) } := by
  rcases Option.eq_none_or_eq_some e.mPrev with hprev | ⟨p, hprev⟩
  · simp [stepRate, Paired, hprev, hrate]
  · have hpaired : Paired k m e ↔ k.vmin ≤ e.volume ∧ p < m := by simp [Paired, hprev, and_comm]
    have hstep : rateStepTo m e = rateStep (observedBulk (m - p) e.volume) e.bulk := by simp [rateStepTo, hprev]
    simp only [hpaired, hstep, stepRate, limitStep_ne_iff, hprev]
    by_cases hpair : k.vmin ≤ e.volume ∧ p < m
    · simp only [hpair, hmissing, and_self, if_true, true_and, not_true, decide_false]
    · simp only [hpair, hrate, if_false, false_and, not_false_eq_true, decide_true, decide_false]

/-- Step 3, its flag cleared before it: E becomes the measurement or moves towards it by the limit (R115). -/
theorem stepOffset_some (hoffset : e.offsetLimit = false) :
    stepOffset k (some m) e =
      { e with
        fill := if Near k m e then m else if e.fill < m then e.fill + k.omax else e.fill - k.omax
        offsetLimit := decide (¬ Near k m e) } := by
  by_cases hnear : Near k m e
  · simp [stepOffset, hnear, hoffset]
  · by_cases hbelow : e.fill < m <;> simp [stepOffset, hnear, hbelow]

/-- Step 6 of a measured correction: F and clean advance and return by whether a limit was met (R117). -/
theorem stepCounters_some :
    stepCounters (some m) e =
      { e with
        fails := if e.rateLimit = true ∨ e.offsetLimit = true then bump 15 e.fails else 0
        clean := if e.rateLimit = true ∨ e.offsetLimit = true then 0 else bump 31 e.clean } := by
  by_cases hfails : e.rateLimit = true ∨ e.offsetLimit = true <;> simp [stepCounters, hfails]

/-- Steps 4 and 5: E with the adjustment, brought into its range (R116). -/
theorem stepAdjust_eq :
    stepAdjust k e =
      { e with fill := (max 0 (min (ceiling k : Int) (e.fill + e.adjust))).toNat, adjust := 0 } := by
  simp only [stepAdjust, Estimate.mk.injEq, and_true]
  omega

/-! ## The record after a correction -/

/-- Settles O21: the steps by their equations, one after another; without a measurement only the adjustment, the silent
periods and the flags are left of them. -/
theorem periodCorrectionOfARecord : Obligations.PeriodCorrectionOfARecord := by
  unfold Obligations.PeriodCorrectionOfARecord
  intro k counts e
  refine ⟨fun hnone => ?_, fun m hsome => ?_⟩
  · simp only [correctRecord, hnone, stepAdjust_eq]
    rfl
  · simp only [correctRecord, hsome]
    rw [stepRate_some rfl rfl, stepOffset_some rfl, stepAdjust_eq, stepCounters_some]
    simp only [decide_eq_true_eq]
    rfl

end Sys2Proof.Machine
end

section
/-! An append to the emptying history as one equation, and the end of an order by the append of its entry (R160 to
R163). -/

namespace Sys2Proof.Machine

open Sys2Proof

variable {s : State} {c : Box} {o : Order} {e : HistoryEntry}

/-- The history was empty, or the append sets Wrapped: the two events that raise HistoryNew (R163). -/
abbrev NewsOfAppend (s : State) : Prop :=
  s.history = [] ∨ (64 ≤ s.history.length ∧ s.wrapped = false)

theorem appendHistory_full (hfull : 64 ≤ s.history.length) : appendHistory e s =
    { s with
      history := s.history.tail ++ [e], wrapped := true
      port := if s.wrapped = false then (raise .historyNew s).port else s.port } := by
  cases hw : s.wrapped <;> simp [appendHistory, hfull, hw, raise]

theorem appendHistory_room (hroom : ¬ 64 ≤ s.history.length) : appendHistory e s =
    { s with
      history := s.history ++ [e]
      port := if s.history = [] then (raise .historyNew s).port else s.port } := by
  by_cases hempty : s.history = [] <;> simp [appendHistory, hroom, hempty, raise]

/-- An append drops the oldest entry of a full history and then sets Wrapped; HistoryNew is raised at its two events
(R163). -/
theorem appendHistory_eq : appendHistory e s =
    { s with
      history := (if 64 ≤ s.history.length then s.history.tail else s.history) ++ [e]
      wrapped := decide (64 ≤ s.history.length) || s.wrapped
      port := if NewsOfAppend s then (raise .historyNew s).port else s.port } := by
  by_cases hfull : 64 ≤ s.history.length
  · have hne : s.history ≠ [] := List.ne_nil_of_length_pos (by omega)
    simp [appendHistory_full hfull, NewsOfAppend, hfull, hne]
  · simp [appendHistory_room hfull, NewsOfAppend, hfull]

/-- HistoryNew stays as it is at an append to a history that is neither empty nor about to set Wrapped (R163). -/
theorem not_newsOfAppend (hne : s.history ≠ []) (hkept : ¬ 64 ≤ s.history.length ∨ s.wrapped = true) :
    ¬ NewsOfAppend s := by
  rintro (hempty | ⟨hfull, hclear⟩)
  · exact hne hempty
  · rcases hkept with hroom | hset
    · exact hroom hfull
    · simp [hset] at hclear

/-- The order of a container finishes by leaving the list and by the append of its entry (R160). -/
theorem finishOrder_some {outcome : OrderOutcome} {cause : Option FailCause} {mass : Option Nat}
    (h : s.orderOf c = some o) : finishOrder c outcome cause mass s =
      appendHistory (entryOf s o outcome cause mass)
        { s with orders := s.orders.filter fun p => decide (p.container ≠ c) } := by
  simp only [finishOrder, h]

/-- Settles O25: the order's entry by the end of an order, whose container is the one it was found at; the history,
Wrapped and the port after an append by its one equation. -/
theorem finishedOrdersEnterHistory : Obligations.FinishedOrdersEnterHistory := by
  unfold Obligations.FinishedOrdersEnterHistory
  refine ⟨fun _ => rfl, fun s c outcome cause mass => ⟨fun o hfound => ?_, fun hnone => ?_⟩, fun e s => ?_⟩
  · obtain ⟨-, rfl⟩ := mem_of_orderOf hfound
    exact finishOrder_some hfound
  · exact finishOrder_none (orderOf_eq_none.2 hnone)
  · dsimp only
    rw [appendHistory_eq]
    exact ⟨rfl, rfl, rfl, fun hnews => if_pos hnews, fun ⟨hne, hkept⟩ => if_neg (not_newsOfAppend hne hkept)⟩

end Sys2Proof.Machine
end

section
/-! Post Order on a free port: its refusals, the order it creates, and the order it merges into (R147). -/

namespace Sys2Proof.Machine

open Sys2Proof

variable {s t : State} {c : Box} {o : Order} {priority : Byte} {label : Half} {oneShot : Byte}

/-- A container is Dormant exactly while it is not started (R12). -/
theorem opState_eq_dormant {b : Bay} : opState b = .dormant ↔ b.record.started = false := by
  rw [opState_eq_ite]
  split
  next hstarted => simp [hstarted]
  next hstarted =>
    split_ifs <;> simp [hstarted]

/-! ## Post Order of a container -/

theorem postOrderBox_dormant (h : (s.bay c).record.started = false) :
    postOrderBox priority label oneShot c s = refuse .state s :=
  if_pos (opState_eq_dormant.2 h)

/-- In a started container the order decides: none, a Claimed one, or one to merge into (R147). -/
theorem postOrderBox_none (hstarted : (s.bay c).record.started = true) (hfound : s.orderOf c = none) :
    postOrderBox priority label oneShot c s =
      answer (if 3 < priority.toNat then .okClamped else .ok) (.orderPosted (assignedNumber s) false)
        (createOrder (postedOrder c (min 3 priority.toNat) label.toNat (isYes oneShot)) s) := by
  simp [postOrderBox, opState_eq_dormant, hstarted, hfound, okIf_decide]

theorem postOrderBox_claimed (hstarted : (s.bay c).record.started = true) (hfound : s.orderOf c = some o)
    (hclaimed : o.state = .claimed) : postOrderBox priority label oneShot c s = refuse .state s := by
  simp [postOrderBox, opState_eq_dormant, hstarted, hfound, hclaimed]

theorem postOrderBox_merge (hstarted : (s.bay c).record.started = true) (hfound : s.orderOf c = some o)
    (hclaimed : o.state ≠ .claimed) :
    postOrderBox priority label oneShot c s =
      answer (if 3 < priority.toNat then .okClamped else .ok) (.orderPosted o.number true)
        (s.modOrder c (mergePost (min 3 priority.toNat) label.toNat (isYes oneShot))) := by
  simp [postOrderBox, opState_eq_dormant, hstarted, hfound, hclaimed, okIf_decide]

/-! ## The command on a free port -/

theorem exec_postOrder_notFound {n : Byte} (hs : s.portIsFree) (hn : 32 ≤ n.toNat) :
    exec (.postOrder 5 n priority label oneShot) s = .next (answered s .notFound .nothing) := by
  refine exec_eq_answered rfl hs ?_
  rw [carryOut, carryPostOrder, withLength_eq (len := 5) (n := 5) rfl, withBox_none (boxOf_of_ge hn), refuse]

/-- What Post Order of a container answers is what the command leaves at a free port. -/
theorem exec_postOrder {status : Status} {data : RespData} (hs : s.portIsFree)
    (h : postOrderBox priority label oneShot c (noteTaken s) = answer status data (noteTaken t)) :
    exec (.postOrder 5 (byteOf c) priority label oneShot) s = .next (answered t status data) := by
  refine exec_eq_answered rfl hs ?_
  rw [carryOut, carryPostOrder, withLength_eq (len := 5) (n := 5) rfl, byteOf, withBox_some boxOf_ofNat, h]

/-- Settles O23: the number check, then the branches of the container's own state and order; the taking of the command
leaves orders, counter and containers as they are. -/
theorem postOrderCreatesOrMerges : Obligations.PostOrderCreatesOrMerges := by
  unfold Obligations.PostOrderCreatesOrMerges
  intro s c priority label oneShot hs
  refine ⟨fun _ hn => exec_postOrder_notFound hs hn, fun hdormant => ?_, fun o hstarted hfound hclaimed => ?_,
    fun hstarted hfound => ?_, fun o hstarted hfound hclaimed => ?_⟩
  · exact exec_postOrder hs (postOrderBox_dormant hdormant)
  · exact exec_postOrder hs (postOrderBox_claimed hstarted hfound hclaimed)
  · exact exec_postOrder hs (postOrderBox_none hstarted hfound)
  · exact exec_postOrder hs (postOrderBox_merge hstarted hfound hclaimed)

end Sys2Proof.Machine
end

section
/-! Clear Fault on a free port: the three fault attributes, and the clearing of HatchJam by a column that is heard and
last reported the hatch Closed (R186). -/

namespace Sys2Proof.Machine

open Sys2Proof

variable {s t : State} {c : Box}

/-- The column is heard, and the last uplink it delivered reported the hatch Closed (R186). -/
abbrev HeardClosed (k : Column) : Prop :=
  k.lost = false ∧ ∃ u, k.last = some u ∧ u.hatch = .closed

theorem heardClosed_iff {k : Column} :
    HeardClosed k ↔ k.lost = false ∧ k.last.map LastUplink.hatch = some .closed := by
  rw [HeardClosed, Option.map_eq_some_iff]

/-! ## Clear Fault of a container -/

theorem clearFaultBox_none (h : (s.bay c).record.fault = .none) :
    clearFaultBox c s = answer .ok (.fault .none) s := by
  simp only [clearFaultBox, h]

theorem clearFaultBox_columnLost (h : (s.bay c).record.fault = .columnLost) :
    clearFaultBox c s = refuse .state s := by
  simp only [clearFaultBox, h]

/-- At HatchJam the column decides (R186). -/
theorem clearFaultBox_jam_kept (h : (s.bay c).record.fault = .hatchJam)
    (hopen : ¬ HeardClosed (s.bay c).column) : clearFaultBox c s = refuse .state s := by
  simp only [clearFaultBox, h]
  exact if_neg (mt heardClosed_iff.2 hopen)

theorem clearFaultBox_jam_cleared (h : (s.bay c).record.fault = .hatchJam)
    (hclosed : HeardClosed (s.bay c).column) :
    clearFaultBox c s = answer .ok (.fault .hatchJam) (s.modRecord c fun r => { r with fault := .none }) := by
  simp only [clearFaultBox, h]
  exact if_pos (heardClosed_iff.1 hclosed)

/-! ## The command on a free port -/

theorem exec_clearFault_notFound {n : Byte} (hs : s.portIsFree) (hn : 32 ≤ n.toNat) :
    exec (.clearFault 1 n) s = .next (answered s .notFound .nothing) := by
  refine exec_eq_answered rfl hs ?_
  rw [carryOut, carryClearFault, withLength_eq (len := 1) (n := 1) rfl, withBox_none (boxOf_of_ge hn), refuse]

/-- What Clear Fault of a container answers is what the command leaves at a free port. -/
theorem exec_clearFault {status : Status} {data : RespData} (hs : s.portIsFree)
    (h : clearFaultBox c (noteTaken s) = answer status data (noteTaken t)) :
    exec (.clearFault 1 (byteOf c)) s = .next (answered t status data) := by
  refine exec_eq_answered rfl hs ?_
  rw [carryOut, carryClearFault, withLength_eq (len := 1) (n := 1) rfl, byteOf, withBox_some boxOf_ofNat, h]

/-- Settles O29: the number check, then the rows of the table by the fault attribute and, at HatchJam, the column; the
taking of the command leaves every container as it is. -/
theorem clearFaultFollowsTheTable : Obligations.ClearFaultFollowsTheTable := by
  unfold Obligations.ClearFaultFollowsTheTable
  intro s c hs
  refine ⟨fun _ hn => exec_clearFault_notFound hs hn, fun hnone => ?_, fun hlost => ?_, fun hjam hopen => ?_,
    fun hjam hclosed => ?_⟩
  · exact exec_clearFault hs (clearFaultBox_none hnone)
  · exact exec_clearFault hs (clearFaultBox_columnLost hlost)
  · exact exec_clearFault hs (clearFaultBox_jam_kept hjam hopen)
  · exact exec_clearFault hs (clearFaultBox_jam_cleared hjam hclosed)

end Sys2Proof.Machine
end

section
/-! The Summary byte indication by indication, and the fall of the select line that forms it (R193, R203). -/

namespace Sys2Proof.Machine

open Sys2Proof

variable {s : State}

/-! ## What the indications report -/

/-- The attention condition by items: one is both set and enabled (R195, R197). -/
theorem attentionCondition_iff {p : Port} :
    attentionCondition p = true ↔ ∃ i : Fin 10, p.items.getLsbD i = true ∧ p.mask.getLsbD i = true := by
  rw [attentionCondition, bne_iff_ne]
  constructor
  · intro hne
    by_contra hnone
    refine hne (BitVec.eq_of_getLsbD_eq fun i hi => ?_)
    rw [BitVec.getLsbD_and, BitVec.getLsbD_zero, Bool.and_eq_false_iff]
    by_contra hboth
    exact hnone ⟨⟨i, hi⟩, by simpa using hboth⟩
  · rintro ⟨i, hset, henabled⟩ hzero
    have hbit : (p.items &&& p.mask).getLsbD i = true := by rw [BitVec.getLsbD_and, hset, henabled]; rfl
    simp [hzero] at hbit

theorem anyFault_iff : anyFault s = true ↔ ∃ c : Box, (s.bay c).record.fault ≠ .none := by
  simp [anyFault, mem_allBoxes]

/-! ## The places in the byte

The byte is joined from one bit at a time and the two bits of the bus state; the widths `m` are named so that the rule for a
join matches the byte's width. -/

theorem summaryByte_bit_attention : (summaryByte s).getLsbD 7 = attentionCondition s.port := by
  simp [summaryByte, BitVec.getElem_append (m := 1), BitVec.getElem_append (m := 2)]

theorem summaryByte_bit_logHigh : (summaryByte s).getLsbD 6 = decide (768 ≤ s.log.length) := by
  simp [summaryByte, BitVec.getElem_append (m := 1), BitVec.getElem_append (m := 2)]

theorem summaryByte_bit_fault : (summaryByte s).getLsbD 5 = anyFault s := by
  simp [summaryByte, BitVec.getElem_append (m := 1), BitVec.getElem_append (m := 2)]

theorem summaryByte_bit_docked : (summaryByte s).getLsbD 4 = s.dock.isSome := by
  simp [summaryByte, BitVec.getElem_append (m := 1), BitVec.getElem_append (m := 2)]

theorem summaryByte_bits_busState : (summaryByte s).extractLsb' 2 2 = busStateCode s.bus.state := by
  refine BitVec.eq_of_getLsbD_eq fun i hi => ?_
  have hi' : i = 0 ∨ i = 1 := by omega
  obtain rfl | rfl := hi' <;> simp [summaryByte, BitVec.getElem_append (m := 1), BitVec.getElem_append (m := 2)]

theorem summaryByte_bit_clockUnset : (summaryByte s).getLsbD 1 = !s.clock.set := by
  simp [summaryByte, BitVec.getElem_append (m := 1)]

theorem summaryByte_bit_discarded : (summaryByte s).getLsbD 0 = s.port.discarded := by
  simp [summaryByte, BitVec.getElem_append (m := 1)]

/-! ## The event -/

theorem exec_selectFall : exec .selectFall s = .next (beginFrame s) := rfl

/-- Settles O4: the frame begun holds the Summary byte of the state before it; its bits by their places, and what each
of them reports. -/
theorem selectFallFormsTheSummary : Obligations.SelectFallFormsTheSummary := by
  unfold Obligations.SelectFallFormsTheSummary
  intro s
  refine ⟨beginFrame s, exec_selectFall, rfl, summaryByte s, rfl, ?_, ?_, ?_, ?_, summaryByte_bits_busState, ?_, ?_⟩
  · rw [summaryByte_bit_attention, attentionCondition_iff]
  · rw [summaryByte_bit_logHigh, decide_eq_true_iff]
  · rw [summaryByte_bit_fault, anyFault_iff]
  · rw [summaryByte_bit_docked, Option.isSome_iff_ne_none]
  · rw [summaryByte_bit_clockUnset, Bool.not_eq_true']
  · rw [summaryByte_bit_discarded]

end Sys2Proof.Machine
end

section
/-! What every operation of the part keeps: the relations of section Safety one by one, the queue of events, and the
deposit log as a beginning of the next. An operation is put together from a few kinds of change; each kind is shown once to keep
everything, and the relations over several blocks are the premises of the kinds that touch them. -/

namespace Sys2Proof.Machine

open Sys2Proof

variable {p q : Prop} {s t u : State} {c d : Box}

/-! ## The relation -/

/-- The relations over the card list, its storage, the allowances, the settings and the clock (O53). -/
abbrev State.cardsAgree (s : State) : Prop :=
  s.cardsOrdered ∧ s.storageCovers ∧ s.allowancesBounded ∧ s.settings.inRange ∧ s.clock.inRange

/-- The relations over the open-card set, the reserved slots and the room of the log (O54). -/
abbrev State.slotsAgree (s : State) : Prop :=
  s.cyclesAgree ∧ s.logHasRoom

/-- The relations over the bus modes and the cycles (O57). -/
abbrev State.busAgrees (s : State) : Prop :=
  s.silentBusIdle ∧ s.bus.modesAgree

/-- `t` stands after `s` with every relation of `s` kept. The bus relations are asked for only under `p`, because the entry
to Blocked passes through states without them; the log only under `q`, because a release shortens it. -/
structure Keeps (p q : Prop) (s t : State) : Prop where
  queue : t.pending = s.pending
  log : q → s.log <+: t.log
  records : s.recordsInRange → t.recordsInRange
  counters : s.countersInRange → t.countersInRange
  measures : s.measuresInRange → t.measuresInRange
  cards : s.cardsAgree → t.cardsAgree
  slots : s.slotsAgree → t.slotsAgree
  sequence : s.logInSequence → t.logInSequence
  hatches : s.hatchesAgree → t.hatchesAgree
  bus : p → s.busAgrees → t.busAgrees
  orders : s.ordersAgree → t.ordersAgree
  holds : s.holdsAgree → t.holdsAgree
  line : s.port.lineAgrees → t.port.lineAgrees

theorem Keeps.refl : Keeps p q s s :=
  ⟨rfl, fun _ => List.prefix_rfl, id, id, id, id, id, id, id, fun _ => id, id, id, id⟩

theorem Keeps.trans (h : Keeps p q s t) (k : Keeps p q t u) : Keeps p q s u where
  queue := k.queue.trans h.queue
  log hq := (h.log hq).trans (k.log hq)
  records := k.records ∘ h.records
  counters := k.counters ∘ h.counters
  measures := k.measures ∘ h.measures
  cards := k.cards ∘ h.cards
  slots := k.slots ∘ h.slots
  sequence := k.sequence ∘ h.sequence
  hatches := k.hatches ∘ h.hatches
  bus hp := k.bus hp ∘ h.bus hp
  orders := k.orders ∘ h.orders
  holds := k.holds ∘ h.holds
  line := k.line ∘ h.line

/-- An operation carried out only under a condition keeps what it keeps. -/
theorem Keeps.ite {b : Prop} [Decidable b] (h : b → Keeps p q s t) (k : ¬ b → Keeps p q s u) :
    Keeps p q s (if b then t else u) := by
  split
  next hb => exact h hb
  next hb => exact k hb

theorem Keeps.foldl {α : Type} {f : State → α → State} (h : ∀ t a, Keeps p q t (f t a)) :
    ∀ (l : List α) (s : State), Keeps p q s (l.foldl f s)
  | [], _ => .refl
  | a :: l, s => (h s a).trans (Keeps.foldl h l (f s a))

/-! ## Changes of one block -/

theorem Keeps.port {v : Port} (h : s.port.lineAgrees → v.lineAgrees) : Keeps p q s { s with port := v } :=
  { Keeps.refl (p := p) (q := q) (s := s) with line := h }

theorem Keeps.draws {n : Nat} : Keeps p q s { s with draws := n } :=
  { Keeps.refl (p := p) (q := q) (s := s) with }

theorem Keeps.reply {r : Option Reply} : Keeps p q s { s with reply := r } :=
  { Keeps.refl (p := p) (q := q) (s := s) with }

theorem Keeps.sighting {x : Option Sighting} : Keeps p q s { s with sighting := x } :=
  { Keeps.refl (p := p) (q := q) (s := s) with }

theorem Keeps.clock {k : Clock} (h : s.clock.inRange → k.inRange) : Keeps p q s { s with clock := k } :=
  { Keeps.refl (p := p) (q := q) (s := s) with
    cards := fun ⟨ho, hc, ha, hv, hk⟩ => ⟨ho, hc, ha, hv, h hk⟩ }

theorem Keeps.denials {v : Vector Nat 11}
    (h : (∀ i : Fin 11, s.denials[i] ≤ 65535) → ∀ i : Fin 11, v[i] ≤ 65535) :
    Keeps p q s { s with denials := v } :=
  { Keeps.refl (p := p) (q := q) (s := s) with
    counters := fun ⟨hd, hn⟩ => ⟨h hd, hn⟩ }

theorem Keeps.history {l : List HistoryEntry} {w : Bool} (h : s.history.length ≤ 64 → l.length ≤ 64) :
    Keeps p q s { s with history := l, wrapped := w } :=
  { Keeps.refl (p := p) (q := q) (s := s) with
    counters := fun ⟨hd, hn, hh, hb⟩ => ⟨hd, hn, h hh, hb⟩ }

/-- A change of the bus; that it keeps the bus relations is its premise. -/
theorem Keeps.busChange {v : Bus} (h : p → s.busAgrees → State.busAgrees { s with bus := v }) :
    Keeps p q s { s with bus := v } :=
  { Keeps.refl (p := p) (q := q) (s := s) with bus := h }

/-- A change of the card list and the settings; that it keeps their relations is its premise. -/
theorem Keeps.cardList {l : List CardRecord} {st : CardStorage} {v : Settings}
    (h : s.cardsAgree → State.cardsAgree { s with cards := l, cardStorage := st, settings := v }) :
    Keeps p q s { s with cards := l, cardStorage := st, settings := v } :=
  { Keeps.refl (p := p) (q := q) (s := s) with cards := h }

/-- A change of the order list; that it keeps the order relations is its premise. -/
theorem Keeps.orderList {l : List Order} {n : Nat} (hn : n = s.orderCounter ∨ 1 ≤ n ∧ n ≤ 65535)
    (h : s.ordersAgree → State.ordersAgree { s with orders := l, orderCounter := n }) :
    Keeps p q s { s with orders := l, orderCounter := n } :=
  { Keeps.refl (p := p) (q := q) (s := s) with
    counters := fun ⟨hd, hc, hr⟩ => ⟨hd, hn.elim (fun e => e ▸ hc) id, hr⟩
    orders := h }

/-! ## Changes of the records of a container -/

/-- The ranges of the counters of one container (R6, R29, R50, R54). -/
abbrev Bay.countersInRange (b : Bay) : Prop :=
  b.record.tally ≤ 65535 ∧ b.column.consecutive ≤ 15 ∧ b.column.total ≤ 65535 ∧ b.hatch.stray ≤ 65535 ∧
    ∀ n ∈ b.hatch.baseline, n ≤ 255

/-- The records of a container changed: the relations over them alone are kept, and what the relations of the orders and
holds read of them stays. -/
structure BaySound (a b : Bay) : Prop where
  started : a.record.started = true → b.record.started = true
  emptying : b.hold.emptying = a.hold.emptying
  orphan : b.hold.orphan = a.hold.orphan
  records : a.record.config.inRange ∧ a.est.inRange a.record.config →
    b.record.config.inRange ∧ b.est.inRange b.record.config
  counters : a.countersInRange → b.countersInRange
  measures : a.est.measuresInRange a.record.config → b.est.measuresInRange b.record.config
  hatches : a.hatch.timersAgree ∧ a.cycleFits → b.hatch.timersAgree ∧ b.cycleFits
  holds : a.holdFits → b.holdFits

/-- A change of the records of a container that leaves the card of its cycle alone, too. -/
structure BayKept (a b : Bay) : Prop extends BaySound a b where
  card : b.hatch.cycle.map Cycle.card = a.hatch.cycle.map Cycle.card

theorem BayKept.refl {b : Bay} : BayKept b b :=
  ⟨⟨id, rfl, rfl, id, id, id, id, id⟩, rfl⟩

theorem BayKept.trans {a b e : Bay} (h : BayKept a b) (k : BayKept b e) : BayKept a e :=
  ⟨⟨k.started ∘ h.started, k.emptying.trans h.emptying, k.orphan.trans h.orphan, k.records ∘ h.records,
    k.counters ∘ h.counters, k.measures ∘ h.measures, k.hatches ∘ h.hatches, k.holds ∘ h.holds⟩,
    k.card.trans h.card⟩

theorem BayKept.cycle_none {a b : Bay} (h : BayKept a b) (ha : a.hatch.cycle = none) : b.hatch.cycle = none := by
  have := h.card
  rwa [ha, Option.map_none, Option.map_eq_none_iff] at this

/-- The column record and the denial display are read by no relation but the ranges of the slot counters. -/
theorem BayKept.column {b : Bay} {k : Column} {x : Option DenialReason}
    (hc : b.column.consecutive ≤ 15 → k.consecutive ≤ 15) (ht : b.column.total ≤ 65535 → k.total ≤ 65535) :
    BayKept b { b with column := k, display := x } :=
  { BayKept.refl (b := b) with
    counters := fun ⟨htally, hcons, htotal, hrest⟩ => ⟨htally, hc hcons, ht htotal, hrest⟩ }

theorem BayKept.est {b : Bay} {e : Estimate}
    (hr : b.record.config.inRange → b.est.inRange b.record.config → e.inRange b.record.config)
    (hm : b.est.measuresInRange b.record.config → e.measuresInRange b.record.config) :
    BayKept b { b with est := e } :=
  { BayKept.refl (b := b) with
    records := fun ⟨hk, he⟩ => ⟨hk, hr hk he⟩
    measures := hm }

theorem BayKept.hatch {b : Bay} {h : Hatch} (hcard : h.cycle.map Cycle.card = b.hatch.cycle.map Cycle.card)
    (hstray : b.hatch.stray ≤ 65535 → h.stray ≤ 65535)
    (hbase : (∀ n ∈ b.hatch.baseline, n ≤ 255) → ∀ n ∈ h.baseline, n ≤ 255)
    (htimers : b.hatch.timersAgree → h.timersAgree) : BayKept b { b with hatch := h } := by
  have hactive : Bay.cycleActive { b with hatch := h } = b.cycleActive := by
    simpa [Bay.cycleActive] using congrArg Option.isSome hcard
  exact { BayKept.refl (b := b) with
    card := hcard
    counters := fun ⟨htally, hcons, htotal, hs, hb⟩ => ⟨htally, hcons, htotal, hstray hs, hbase hb⟩
    hatches := fun ⟨ht, hf⟩ => ⟨htimers ht, fun ha => hf (hactive ▸ ha)⟩
    holds := fun ⟨hmarks, hforced, htq⟩ => ⟨hmarks, hforced, by rw [hactive]; exact htq⟩ }

/-- Records of containers changed within their relations, the cycles and what belongs to them with them: that the
relations over cycles, log and bus are kept is the premise. -/
theorem Keeps.cycleChange {b : Vector Bay 32} {cards : List Nat} {n m : Nat} {l : List LogRecord}
    (h : ∀ c : Box, BaySound (s.bay c) b[c]) (hlog : q → s.log <+: l)
    (hslots : s.slotsAgree → State.slotsAgree { s with bays := b, openCards := cards, reserved := n, log := l })
    (hseq : s.logInSequence → State.logInSequence { s with log := l, nextSequence := m })
    (hbus : p → s.busAgrees → State.busAgrees { s with bays := b }) :
    Keeps p q s { s with bays := b, openCards := cards, reserved := n, log := l, nextSequence := m } :=
  { Keeps.refl (p := p) (q := q) (s := s) with
    log := hlog
    records := fun hs c => (h c).records (hs c)
    counters := fun ⟨hd, hn, hh, hs⟩ => ⟨hd, hn, hh, fun c => (h c).counters (hs c)⟩
    measures := fun hs c => (h c).measures (hs c)
    slots := hslots
    sequence := hseq
    hatches := fun hs c => (h c).hatches (hs c)
    bus := hbus
    orders := fun ⟨⟨hnodup, hstarted⟩, hfits, hheld, hdocked⟩ =>
      ⟨⟨hnodup, fun o ho => (h o.container).started (hstarted o ho)⟩, hfits,
        fun o ho hc => (h o.container).emptying.trans (hheld o ho hc), hdocked⟩
    holds := fun ⟨hfits, horphans⟩ => ⟨fun c => (h c).holds (hfits c), fun c v hv => by
      have hemp : v ∈ (s.bay c).hold.emptying := (h c).emptying ▸ hv
      exact (h c).orphan ▸ horphans c v hemp⟩ }

/-- Records of containers changed within their relations. -/
theorem Keeps.bays {b : Vector Bay 32} (h : ∀ c : Box, BayKept (s.bay c) b[c]) :
    Keeps p q s { s with bays := b } := by
  have hcards : activeCards { s with bays := b } = activeCards s :=
    List.filterMap_congr fun c _ => (h c).card
  refine Keeps.cycleChange (fun c => (h c).toBaySound) (fun _ => List.prefix_rfl) ?_ id
    fun _ ⟨⟨hidle, hslots⟩, hmodes⟩ => ⟨⟨fun hp c => (h c).cycle_none (hidle hp c), hslots⟩, hmodes⟩
  rintro ⟨⟨hperm, hnodup, hcount⟩, hroom⟩
  exact ⟨⟨hcards ▸ hperm, hnodup, hcount⟩, hroom⟩

theorem Keeps.modBay {f : Bay → Bay} (h : BayKept (s.bay c) (f (s.bay c))) : Keeps p q s (s.modBay c f) := by
  refine Keeps.bays fun d => ?_
  change BayKept (s.bay d) ((s.modBay c f).bay d)
  rw [bay_modBay]
  split
  next hd => exact hd ▸ h
  next => exact .refl

theorem keeps_modColumn {f : Column → Column}
    (hc : (s.bay c).column.consecutive ≤ 15 → (f (s.bay c).column).consecutive ≤ 15)
    (ht : (s.bay c).column.total ≤ 65535 → (f (s.bay c).column).total ≤ 65535) :
    Keeps p q s (s.modColumn c f) :=
  Keeps.modBay (BayKept.column (x := (s.bay c).display) hc ht)

theorem keeps_modHatch {f : Hatch → Hatch}
    (hcard : (f (s.bay c).hatch).cycle.map Cycle.card = (s.bay c).hatch.cycle.map Cycle.card)
    (hstray : (s.bay c).hatch.stray ≤ 65535 → (f (s.bay c).hatch).stray ≤ 65535)
    (hbase : (∀ n ∈ (s.bay c).hatch.baseline, n ≤ 255) → ∀ n ∈ (f (s.bay c).hatch).baseline, n ≤ 255)
    (htimers : (s.bay c).hatch.timersAgree → (f (s.bay c).hatch).timersAgree) :
    Keeps p q s (s.modHatch c f) :=
  Keeps.modBay (BayKept.hatch hcard hstray hbase htimers)

theorem keeps_modEst {f : Estimate → Estimate}
    (hr : (s.bay c).record.config.inRange → (s.bay c).est.inRange (s.bay c).record.config →
      (f (s.bay c).est).inRange (s.bay c).record.config)
    (hm : (s.bay c).est.measuresInRange (s.bay c).record.config →
      (f (s.bay c).est).measuresInRange (s.bay c).record.config) :
    Keeps p q s (s.modEst c f) :=
  Keeps.modBay (BayKept.est hr hm)

theorem Keeps.mapBays {f : Bay → Bay} (h : ∀ c, BayKept (s.bay c) (f (s.bay c))) :
    Keeps p q s (s.mapBays f) := by
  refine Keeps.bays fun d => ?_
  change BayKept (s.bay d) ((s.mapBays f).bay d)
  rw [bay_mapBays]
  exact h d

/-- The hold records and the dock changed, all other records of every container left alone; that this keeps the
relations of the orders and of the holds is its premise. -/
theorem Keeps.holdRecords {b : Vector Bay 32} {x : Option DockRecord}
    (hsame : ∀ c : Box, ∃ h, b[c] = { s.bay c with hold := h })
    (ho : s.ordersAgree → State.ordersAgree { s with bays := b, dock := x })
    (hh : s.holdsAgree → State.holdsAgree { s with bays := b, dock := x }) :
    Keeps p q s { s with bays := b, dock := x } := by
  have hbay (c : Box) : ∃ h, State.bay { s with bays := b, dock := x } c = { s.bay c with hold := h } := hsame c
  have hcards : activeCards { s with bays := b, dock := x } = activeCards s :=
    List.filterMap_congr fun c _ => by obtain ⟨h, e⟩ := hbay c; rw [e]
  exact { Keeps.refl (p := p) (q := q) (s := s) with
    records := fun hs c => by obtain ⟨h, e⟩ := hbay c; rw [e]; exact hs c
    counters := fun ⟨hd, hn, hl, hs⟩ => ⟨hd, hn, hl, fun c => by obtain ⟨h, e⟩ := hbay c; rw [e]; exact hs c⟩
    measures := fun hs c => by obtain ⟨h, e⟩ := hbay c; rw [e]; exact hs c
    slots := fun ⟨⟨hperm, hrest⟩, hroom⟩ => ⟨⟨by rw [hcards]; exact hperm, hrest⟩, hroom⟩
    hatches := fun hs c => by obtain ⟨h, e⟩ := hbay c; rw [e]; exact hs c
    bus := fun _ ⟨⟨hidle, hslots⟩, hmodes⟩ =>
      ⟨⟨fun hp c => by obtain ⟨h, e⟩ := hbay c; rw [e]; exact hidle hp c, hslots⟩, hmodes⟩
    orders := ho
    holds := hh }

end Sys2Proof.Machine
end

section
/-! The shared operations as one equation each: an evaluation and a deposit volume by what they read, a settlement, and the
end of a cycle with every field it changes (R59, R90, R97, R105, R134). -/

namespace Sys2Proof.Machine

open Sys2Proof

variable {s t : State} {c d : Box}

/-! ## Records of a container -/

@[simp] theorem modBay_modBay {f g : Bay → Bay} : (s.modBay c f).modBay c g = s.modBay c fun b => g (f b) := by
  simp [State.modBay, State.bay]

theorem modBay_congr {f g : Bay → Bay} (h : f (s.bay c) = g (s.bay c)) : s.modBay c f = s.modBay c g := by
  simp only [State.modBay, h]

@[simp] theorem modBay_id {f : Bay → Bay} (h : f (s.bay c) = s.bay c) : s.modBay c f = s := by
  simp only [State.modBay, h]
  simp [State.bay]

theorem bays_modBay {f : Bay → Bay} : (s.modBay c f).bays = s.bays.set c (f (s.bay c)) := rfl

/-- Two states that differ at most in the records of containers are equal where these are. -/
theorem eq_of_bay_eq (h : t = { s with bays := t.bays }) (hb : ∀ c, t.bay c = s.bay c) : t = s := by
  rw [h, bays_ext hb]

/-! ## Evaluation -/

/-- The close flag an evaluation leaves (R135). -/
def flagAfter (k : ContainerConfig) (e : Estimate) : Bool :=
  closeFlagAfter k (effFill e) e.closeFlag

/-- The order list and the number counter an evaluation leaves (R137, R138). -/
def orderingOf (c : Box) (r : ContainerRec) (e : Estimate) (l : List Order) (n : Nat) : List Order × Nat :=
  match l.find? fun o => o.container == c with
  | none =>
    if r.started && callsForOrder r.config e then
      (l ++ [{ number := freeNumber l (l.length + 1) n, container := c, origin := .auto
               priority := if flagAfter r.config e then 3 else 2, label := 0, oneShot := false
               unverified := e.mode == .blind, attempts := 0, state := .pending, abortRequested := false
               vehicle := none }], nextNumber (freeNumber l (l.length + 1) n))
    else (l, n)
  | some _ =>
    if flagAfter r.config e && !e.closeFlag then
      (l.map fun o => if o.container = c then { o with priority := max o.priority 3 } else o, n)
    else (l, n)

/-- An evaluation reads the container record, the estimate record, the order list and the counter, and changes the close
flag, the list and the counter. -/
theorem evaluate_eq : evaluate c s =
    { s with
      bays := (s.modBay c fun b =>
        { b with est := { b.est with closeFlag := flagAfter b.record.config b.est } }).bays
      orders := (orderingOf c (s.bay c).record (s.bay c).est s.orders s.orderCounter).1
      orderCounter := (orderingOf c (s.bay c).record (s.bay c).est s.orders s.orderCounter).2 } := by
  have hflag : closeFlagAfter (s.bay c).record.config (effFill (s.bay c).est) (s.bay c).est.closeFlag =
    flagAfter (s.bay c).record.config (s.bay c).est := rfl
  unfold evaluate orderingOf
  simp only [hflag]
  cases h : s.orders.find? fun o => o.container == c with
  | none =>
    have hnone (f : Estimate → Estimate) : (s.modEst c f).orderOf c = none := h
    simp only [hnone, requestOrder]
    split <;> rfl
  | some o =>
    have hsome (f : Estimate → Estimate) : (s.modEst c f).orderOf c = some o := h
    simp only [hsome]
    split <;> rfl

theorem bay_evaluate_self : (evaluate c s).bay c =
    { s.bay c with est :=
      { (s.bay c).est with closeFlag := flagAfter (s.bay c).record.config (s.bay c).est } } :=
  (bay_of_bays_eq (s := s.modBay c fun b =>
    { b with est := { b.est with closeFlag := flagAfter b.record.config b.est } }) (by rw [evaluate_eq])).trans
    bay_modBay_self

/-- An evaluation of a state that agrees in what an evaluation reads brings the same changes. -/
theorem evaluate_of_agree (hr : (t.bay c).record = (s.bay c).record) (he : (t.bay c).est = (s.bay c).est)
    (ho : t.orders = s.orders) (hn : t.orderCounter = s.orderCounter) : evaluate c t =
    { t with
      bays := (t.modBay c fun b => { b with est := ((evaluate c s).bay c).est }).bays
      orders := (evaluate c s).orders, orderCounter := (evaluate c s).orderCounter } := by
  rw [bay_evaluate_self, evaluate_eq, evaluate_eq (s := s), hr, he, ho, hn]
  simp only [bays_modBay, hr, he]

theorem depositVolume_of_agree (hr : (t.bay c).record = (s.bay c).record) (he : (t.bay c).est = (s.bay c).est)
    (ho : t.orders = s.orders) (hn : t.orderCounter = s.orderCounter) : depositVolume c t =
    { t with
      bays := (t.modBay c fun b => { b with est := ((depositVolume c s).bay c).est }).bays
      orders := (depositVolume c s).orders, orderCounter := (depositVolume c s).orderCounter } := by
  have h := evaluate_of_agree (s := s.modEst c (addVolume (s.bay c).record.config))
    (t := t.modEst c (addVolume (t.bay c).record.config)) (c := c) (by simp [hr]) (by simp [hr, he]) ho hn
  simp only [modEst_eq_modBay, modBay_modBay] at h
  exact h

/-! ## The deposit log -/

theorem appendLog_eq {r : LogRecord} : appendLog r s =
    { s with
      log := s.log ++ [r], nextSequence := (s.nextSequence + 1) % 4294967296
      port := if s.log.length + 1 = 768 then (raise .logHigh s).port else s.port } := by
  unfold appendLog
  simp only [List.length_append, List.length_cons, List.length_nil, Nat.zero_add]
  split <;> rfl

/-- The cards after the settlement of a cycle: but for a Deposit the charge comes back, capped at the plan (R90). -/
def settledCards (o : CycleOutcome) (k : Cycle) (s : State) : List CardRecord :=
  if o = .deposit then s.cards else (refund k.card k.charge s).cards

/-- A settlement changes the cards, the reserved slots, the log with its sequence, and the port by LogHigh. -/
theorem settle_eq {o : CycleOutcome} {k : Cycle} : settle c o k s =
    { s with
      cards := settledCards o k s, reserved := s.reserved - 1
      log := s.log ++ [recordOf { s with cards := settledCards o k s } c o k]
      nextSequence := (s.nextSequence + 1) % 4294967296
      port := if s.log.length + 1 = 768 then (raise .logHigh s).port else s.port } := by
  unfold settle settledCards
  simp only [appendLog_eq]
  split <;> rfl

/-! ## Close demands -/

/-- A close demand that stands is not started again; a new one is held while the column cannot report (R55, R57, R60). -/
def startedDemand (lost polling : Bool) (len : Nat) (x : Option CloseTimer) : Option CloseTimer :=
  match x with
  | some t => some t
  | none => if lost || !polling then some .held else some (.running len)

/-- The close demand after the end of a cycle (R55, R64). -/
def endedDemand (cause : EndCause) (lost polling : Bool) (len : Nat) (x : Option CloseTimer) : Option CloseTimer :=
  match cause with
  | .closedReport => x
  | .resetEnd => x
  | .forcedEnd => startedDemand lost polling len x
  | .other => startedDemand lost polling len x

theorem startDemand_eq : startDemand c s = s.modBay c fun b => { b with hatch := { b.hatch with
    demand := startedDemand b.column.lost (isPolling s.bus) s.settings.tCl b.hatch.demand } } := by
  refine modBay_congr (f := fun b => { b with hatch := { b.hatch with demand := match b.hatch.demand with
    | some t => some t
    | none => if (s.bay c).column.lost || !isPolling s.bus then some .held else some (.running s.settings.tCl) } }) ?_
  simp only [startedDemand]

theorem demandAtEnd_eq {cause : EndCause} : demandAtEnd c cause s = s.modBay c fun b =>
    { b with hatch := { b.hatch with
      demand := endedDemand cause b.column.lost (isPolling s.bus) s.settings.tCl b.hatch.demand } } := by
  cases cause
  · exact (modBay_id rfl).symm
  · exact startDemand_eq
  · exact (modBay_id rfl).symm
  · exact startDemand_eq

/-! ## The end of a cycle -/

theorem volumeAtEnd_of_agree {o : CycleOutcome} {k : Cycle} (hr : (t.bay c).record = (s.bay c).record)
    (he : (t.bay c).est = (s.bay c).est) (ho : t.orders = s.orders) (hn : t.orderCounter = s.orderCounter) :
    volumeAtEnd c o k t =
    { t with
      bays := (t.modBay c fun b => { b with est := ((volumeAtEnd c o k s).bay c).est }).bays
      orders := (volumeAtEnd c o k s).orders, orderCounter := (volumeAtEnd c o k s).orderCounter } := by
  unfold volumeAtEnd
  split
  · exact depositVolume_of_agree hr he ho hn
  · rw [modBay_id (by rw [← he]), ← ho, ← hn]

/-- The records of a container after the end of its cycle, `e` being its estimate record then. -/
def endedBay (cause : EndCause) (polling : Bool) (len : Nat) (e : Estimate) (b : Bay) : Bay :=
  { b with
    hatch := { b.hatch with
      cycle := none, tOw := none, tDep := none
      demand := endedDemand cause b.column.lost polling len b.hatch.demand }
    est := e
    hold := endQuiescence cause b.hold }

/-- The state after the end of a cycle, but for the report to the bus. -/
def cycleEnded (c : Box) (o : CycleOutcome) (cause : EndCause) (k : Cycle) (s : State) : State :=
  { s with
    bays := s.bays.set c (endedBay cause (isPolling s.bus) s.settings.tCl
      ((volumeAtEnd c o k s).bay c).est (s.bay c))
    openCards := s.openCards.erase k.card, reserved := s.reserved - 1, cards := settledCards o k s
    log := s.log ++ [recordOf { s with cards := settledCards o k s } c o k]
    nextSequence := (s.nextSequence + 1) % 4294967296
    port := if s.log.length + 1 = 768 then (raise .logHigh s).port else s.port
    orders := (volumeAtEnd c o k s).orders, orderCounter := (volumeAtEnd c o k s).orderCounter }

theorem modHold_enterQuiet {f : Hold → Hold} : (enterQuiet s).modHold c f = enterQuiet (s.modHold c f) := by
  refine eq_of_bay_eq (by simp only [enterQuiet, State.mapBays, State.modHold, State.modBay]) fun d => ?_
  by_cases hd : d = c
  · subst hd; simp [stopPollingBay]
  · simp [hd]

/-- The report to the bus reads no hold record. -/
theorem modHold_reportEndToBus {f : Hold → Hold} :
    (reportEndToBus s).modHold c f = reportEndToBus (s.modHold c f) := by
  have hactive : activeBoxes (s.modHold c f) = activeBoxes s := by
    refine List.filter_congr fun d _ => ?_
    simp only [modHold_eq_modBay, bay_modBay]
    split
    next hd => subst hd; rfl
    next => rfl
  by_cases h : s.bus.state = .draining ∧ (activeBoxes s).isEmpty = true
  · have h' : (s.modHold c f).bus.state = .draining ∧ (activeBoxes (s.modHold c f)).isEmpty = true := by rwa [hactive]
    rw [reportEndToBus, if_pos h, reportEndToBus, if_pos h']
    exact modHold_enterQuiet
  · have h' : ¬ ((s.modHold c f).bus.state = .draining ∧ (activeBoxes (s.modHold c f)).isEmpty = true) := by rwa [hactive]
    rw [reportEndToBus, if_neg h, reportEndToBus, if_neg h']

/-- The end of a cycle: every field it changes, then the report to the bus (R59). -/
theorem endCycle_eq {o : CycleOutcome} {cause : EndCause} {k : Cycle} (h : (s.bay c).hatch.cycle = some k) :
    endCycle c o cause s = reportEndToBus (cycleEnded c o cause k s) := by
  rw [endCycle_some h, modHold_reportEndToBus, demandAtEnd_eq,
    volumeAtEnd_of_agree (s := s) (by simp) (by simp) (by simp [settle_eq, dropCycle]) (by simp [settle_eq, dropCycle])]
  congr 1
  simp [settle_eq, dropCycle, cycleEnded, endedBay, State.modBay, State.bay, settledCards, refund, State.modCard, recordOf,
    State.cardOf, planValue, raise]

end Sys2Proof.Machine
end

section
/-! Kinds of change that several relations speak of: items and history appends, the card list under a grant and a refund,
the order list, and a cycle that opens or closes (R59, R79, R89, R90, R145, R163). -/

namespace Sys2Proof.Machine

open Sys2Proof

variable {p q : Prop} {s t : State} {c d : Box}

/-! ## Port and history -/

theorem lineAgrees_followLine {v : Port} : (followLine v).lineAgrees := by
  constructor <;> intro h <;> rw [attentionCondition_followLine] <;> rw [line_followLine] at h <;>
    cases hv : v.line <;> cases hc : attentionCondition v <;> simp_all

/-- A port with the same items, mask and line agrees as before. -/
theorem lineAgrees_congr {v w : Port} (hi : w.items = v.items) (hm : w.mask = v.mask) (hl : w.line = v.line)
    (h : v.lineAgrees) : w.lineAgrees := by
  rw [Port.lineAgrees, hl, attentionCondition_congr hi hm]
  exact h

theorem keeps_raise {i : Item} : Keeps p q s (raise i s) :=
  Keeps.port fun _ => lineAgrees_followLine

theorem keeps_appendHistory {e : HistoryEntry} : Keeps p q s (appendHistory e s) := by
  rw [appendHistory_eq]
  refine (Keeps.port (v := if NewsOfAppend s then (raise .historyNew s).port else s.port) fun h => ?_).trans
    (Keeps.history fun h => ?_)
  · split
    · exact lineAgrees_followLine
    · exact h
  · dsimp only at h ⊢
    split <;> simp <;> omega

/-! ## Cards -/

theorem pairwise_numbers_map {l : List CardRecord} {f : CardRecord → CardRecord}
    (hf : ∀ k, (f k).number = k.number) (h : l.Pairwise fun a b => a.number < b.number) :
    (l.map f).Pairwise fun a b => a.number < b.number :=
  List.pairwise_map.2 (h.imp fun hab => by rwa [hf, hf])

/-- A change of each card that leaves its number alone and its allowance within the plan. -/
theorem keeps_mapCards {f : CardRecord → CardRecord} (hn : ∀ k, (f k).number = k.number)
    (hr : ∀ k ∈ s.cards, k.remaining ≤ s.settings.plans[k.plan] → (f k).remaining ≤ s.settings.plans[(f k).plan]) :
    Keeps p q s { s with cards := s.cards.map f } := by
  refine Keeps.cardList fun ⟨⟨hord, hlen, hnum⟩, hst, hall, hset, hclk⟩ => ?_
  refine ⟨⟨pairwise_numbers_map hn hord, by simpa using hlen, ?_⟩, ⟨by simpa using hst.1, hst.2⟩, ?_, hset, hclk⟩
  · intro k hk
    obtain ⟨x, hx, rfl⟩ := List.mem_map.1 hk
    rw [hn]
    exact hnum x hx
  · intro k hk
    obtain ⟨x, hx, rfl⟩ := List.mem_map.1 hk
    exact hr x hx (hall x hx)

theorem keeps_modCard {n : Nat} {f : CardRecord → CardRecord}
    (hn : ∀ k, k.number = n → (f k).number = n)
    (hr : ∀ k ∈ s.cards, k.number = n → k.remaining ≤ s.settings.plans[k.plan] →
      (f k).remaining ≤ s.settings.plans[(f k).plan]) :
    Keeps p q s (s.modCard n f) := by
  refine keeps_mapCards (fun k => ?_) fun k hk h => ?_
  · split
    next he => rw [hn k he, he]
    next => rfl
  · split
    next he => exact hr k hk he h
    next => exact h

theorem keeps_refund {card charge : Nat} : Keeps p q s (refund card charge s) :=
  keeps_modCard (fun _ h => h) fun _ _ _ _ => Nat.min_le_left ..

/-! ## The order list -/

/-- Each order changed within its own relations. -/
theorem keeps_mapOrders {f : Order → Order} (hc : ∀ o, (f o).container = o.container)
    (hf : s.ordersAgree → ∀ o ∈ s.orders, (f o).fits ∧
      ((f o).state = .claimed → (s.bay o.container).hold.emptying = (f o).vehicle) ∧
      ((f o).state = .offered → (f o).vehicle = s.dock.map DockRecord.vehicle)) :
    Keeps p q s { s with orders := s.orders.map f } := by
  refine Keeps.orderList (.inl rfl) fun h => ?_
  have hmem := hf h
  obtain ⟨⟨hnodup, hstarted⟩, -, -, -⟩ := h
  refine ⟨⟨?_, fun o ho => ?_⟩, fun o ho => ?_, fun o ho => ?_, fun o ho => ?_⟩
  · have : (s.orders.map f).map Order.container = s.orders.map Order.container := by simp [hc]
    rwa [this]
  all_goals obtain ⟨x, hx, rfl⟩ := List.mem_map.1 ho
  · rw [hc]; exact hstarted x hx
  · exact (hmem x hx).1
  · rw [hc]; exact (hmem x hx).2.1
  · exact (hmem x hx).2.2

theorem keeps_modOrder {f : Order → Order} (hc : ∀ o, (f o).container = o.container)
    (hf : s.ordersAgree → ∀ o ∈ s.orders, o.container = c → (f o).fits ∧
      ((f o).state = .claimed → (s.bay c).hold.emptying = (f o).vehicle) ∧
      ((f o).state = .offered → (f o).vehicle = s.dock.map DockRecord.vehicle)) :
    Keeps p q s (s.modOrder c f) := by
  refine keeps_mapOrders (fun o => ?_) fun h o ho => ?_
  · split
    · exact hc o
    · rfl
  · split
    next he => exact he ▸ hf h o ho he
    next =>
      obtain ⟨-, hfits, hheld, hdocked⟩ := h
      exact ⟨hfits o ho, hheld o ho, hdocked o ho⟩

/-- A change of priority, marks or attempts leaves an order where it stands. -/
theorem keeps_remarkOrder {f : Order → Order} (hc : ∀ o, (f o).container = o.container)
    (hs : ∀ o, (f o).state = o.state) (hv : ∀ o, (f o).vehicle = o.vehicle)
    (hf : s.ordersAgree → ∀ o ∈ s.orders, o.container = c → (f o).priority ≤ 3 ∧ (f o).attempts ≤ 2) :
    Keeps p q s (s.modOrder c f) := by
  refine keeps_modOrder hc fun h o ho he => ?_
  have hrange := hf h o ho he
  obtain ⟨-, hfits, hheld, hdocked⟩ := h
  refine ⟨⟨?_, hrange⟩, ?_, ?_⟩
  · rw [hs, hv]; exact (hfits o ho).1
  · rw [hs, hv, ← he]; exact hheld o ho
  · rw [hs, hv]; exact hdocked o ho

/-- Orders that leave the list. -/
theorem keeps_filterOrders {f : Order → Bool} : Keeps p q s { s with orders := s.orders.filter f } := by
  refine Keeps.orderList (.inl rfl) fun ⟨⟨hnodup, hstarted⟩, hfits, hheld, hdocked⟩ => ?_
  have hmem {o : Order} (ho : o ∈ s.orders.filter f) : o ∈ s.orders := List.mem_of_mem_filter ho
  exact ⟨⟨hnodup.sublist (List.filter_sublist.map _), fun o ho => hstarted o (hmem ho)⟩,
    fun o ho => hfits o (hmem ho), fun o ho => hheld o (hmem ho), fun o ho => hdocked o (hmem ho)⟩

theorem nextNumber_inRange {n : Nat} : 1 ≤ nextNumber n ∧ nextNumber n ≤ 65535 := by
  unfold nextNumber
  split <;> omega

/-- A new order of a started container that has none. -/
theorem keeps_addOrder {o : Order} {n : Nat} (hnone : ∀ x ∈ s.orders, x.container ≠ o.container)
    (hstarted : (s.bay o.container).record.started = true) (hfits : o.fits)
    (hheld : o.state = .claimed → (s.bay o.container).hold.emptying = o.vehicle)
    (hoffered : o.state ≠ .offered) :
    Keeps p q s { s with orders := s.orders ++ [o], orderCounter := nextNumber n } := by
  refine Keeps.orderList (.inr nextNumber_inRange) fun ⟨⟨hnodup, hst⟩, hf, hh, hd⟩ => ?_
  refine ⟨⟨?_, ?_⟩, ?_, ?_, ?_⟩
  · rw [List.map_append]
    refine List.Nodup.append hnodup (by simp) ?_
    simpa using hnone
  all_goals
    intro x hx
    rcases List.mem_append.1 hx with hx | hx
  · exact hst x hx
  · exact List.mem_singleton.1 hx ▸ hstarted
  · exact hf x hx
  · exact List.mem_singleton.1 hx ▸ hfits
  · exact hh x hx
  · exact List.mem_singleton.1 hx ▸ hheld
  · exact hd x hx
  · obtain rfl := List.mem_singleton.1 hx
    exact fun h => absurd h hoffered

/-! ## Open cards and active cycles -/

/-- One element of a list counts for one entry: where it counts for none instead, that entry goes. -/
theorem filterMap_perm_cons {α β : Type} [DecidableEq α] {l : List α} {f g : α → Option β} {a : α} {b : β}
    (hl : l.Nodup) (ha : a ∈ l) (hf : f a = some b) (hg : g a = none) (hfg : ∀ x, x ≠ a → g x = f x) :
    (l.filterMap f).Perm (b :: l.filterMap g) := by
  have hcongr : (l.erase a).filterMap f = (l.erase a).filterMap g :=
    List.filterMap_congr fun x hx => (hfg x fun e => by
      rw [e] at hx
      exact hl.not_mem_erase hx).symm
  have h₁ := (List.perm_cons_erase ha).filterMap f
  have h₂ := (List.perm_cons_erase ha).filterMap g
  rw [List.filterMap_cons_some hf] at h₁
  rw [List.filterMap_cons_none hg, ← hcongr] at h₂
  exact h₁.trans (h₂.symm.cons b)

/-- A cycle in `s` that is none in `t`: its card is one more among the active ones of `s`. -/
theorem activeCards_perm {k : Cycle} (hs : (s.bay c).hatch.cycle = some k) (ht : (t.bay c).hatch.cycle = none)
    (hne : ∀ d, d ≠ c → (t.bay d).hatch.cycle = (s.bay d).hatch.cycle) :
    (activeCards s).Perm (k.card :: activeCards t) :=
  filterMap_perm_cons (a := c) (List.nodup_finRange 32) mem_allBoxes (by simp [hs]) (by simp [ht])
    fun d hd => by rw [hne d hd]

/-- The sequence numbers of a log that ends before `next`. -/
abbrev sequenceTo (l : List LogRecord) (next : Nat) : Prop :=
  next < 4294967296 ∧ ∀ i : Fin l.length, ((l[i]).sequence + (l.length - i.val)) % 4294967296 = next

theorem sequenceTo_append {l : List LogRecord} {r : LogRecord} {n : Nat} (h : sequenceTo l n) (hr : r.sequence = n) :
    sequenceTo (l ++ [r]) ((n + 1) % 4294967296) := by
  obtain ⟨hn, hl⟩ := h
  refine ⟨Nat.mod_lt _ (by decide), fun ⟨i, hi⟩ => ?_⟩
  simp only [List.length_append, List.length_cons, List.length_nil, Nat.zero_add] at hi
  simp only [Fin.getElem_fin, List.length_append, List.length_cons, List.length_nil, Nat.zero_add]
  by_cases hlt : i < l.length
  · have := hl ⟨i, hlt⟩
    simp only [Fin.getElem_fin] at this
    rw [List.getElem_append_left hlt]
    omega
  · obtain rfl : i = l.length := by omega
    rw [List.getElem_append_right (le_refl _)]
    simp only [Nat.sub_self, List.getElem_cons_zero, hr]
    omega

/-! ## The end of a cycle -/

/-- The records of a container whose cycle has gone, a fault set with it. -/
def clearedBay (cause : EndCause) (a : FaultAttr) (b : Bay) : Bay :=
  { b with
    record := { b.record with fault := a }
    hatch := { b.hatch with cycle := none, tOw := none, tDep := none }
    hold := endQuiescence cause b.hold }

theorem baySound_clearedBay {cause : EndCause} {a : FaultAttr} {b : Bay} : BaySound b (clearedBay cause a b) := by
  obtain ⟨-, hemp, horph, -⟩ := endQuiescence_keeps (cause := cause) (h := b.hold)
  refine ⟨id, hemp, horph, id, id, id, fun _ => ?_, fun ⟨hmarks, hforced, htq⟩ => ?_⟩
  · simp [clearedBay, Hatch.timersAgree, Bay.cycleFits, Bay.cycleActive]
  · by_cases hr : b.hold.requested = true
    · have hr' : (endQuiescence cause b.hold).requested = true := by
        rw [Hold.requested, (endQuiescence_keeps).1, hemp]; exact hr
      refine ⟨?_, fun h => ?_, ?_⟩
      · have := endQuiescence_keeps (cause := cause) (h := b.hold)
        rw [clearedBay, this.2.1, this.2.2.1, this.2.2.2]
        exact hmarks
      · rw [clearedBay, hr'] at h; cases h
      · simp [clearedBay, endQuiescence, hr, Bay.cycleActive]
    · have he : endQuiescence cause b.hold = b.hold := if_neg hr
      refine ⟨?_, ?_, ?_⟩
      · rw [clearedBay, he]; exact hmarks
      · rw [clearedBay, he]; exact hforced
      · have : b.hold.tQ.isSome = false := by
          rw [Bool.eq_false_iff]; exact fun h => hr (htq.1 h).1
        simp [clearedBay, he, this, Bay.cycleActive]

/-- A cycle that goes, with its card, its reserved slot and its log record. -/
theorem keeps_cycleGone {cause : EndCause} {a : FaultAttr} {k : Cycle} {r : LogRecord}
    (hk : (s.bay c).hatch.cycle = some k) (hr : r.sequence = s.nextSequence) :
    Keeps p q s { s with
      bays := (s.modBay c (clearedBay cause a)).bays, openCards := s.openCards.erase k.card
      reserved := s.reserved - 1, log := s.log ++ [r]
      nextSequence := (s.nextSequence + 1) % 4294967296 } := by
  have hbay (d : Box) : BaySound (s.bay d) ((s.modBay c (clearedBay cause a)).bay d) := by
    by_cases hd : d = c
    · subst hd; rw [bay_modBay_self]; exact baySound_clearedBay
    · rw [bay_modBay_ne hd]; exact BayKept.refl.toBaySound
  refine Keeps.cycleChange hbay (fun _ => List.prefix_append ..) ?_ (fun h => sequenceTo_append h hr)
    fun _ ⟨⟨hidle, hslots⟩, hmodes⟩ => ⟨⟨fun hp d => ?_, hslots⟩, hmodes⟩
  · rintro ⟨⟨hperm, hnodup, hcount⟩, hroom⟩
    have hact := hperm.trans (activeCards_perm (t := s.modBay c (clearedBay cause a)) hk
      (by rw [bay_modBay_self]; rfl) fun d hd => by rw [bay_modBay_ne hd])
    have hmem : k.card ∈ s.openCards := hact.mem_iff.2 List.mem_cons_self
    have hlen : (s.openCards.erase k.card).length = s.openCards.length - 1 := List.length_erase_of_mem hmem
    have hpos : 0 < s.openCards.length := List.length_pos_of_mem hmem
    refine ⟨⟨?_, hnodup.erase _, ?_⟩, ?_⟩
    · exact (hact.erase k.card).trans (by rw [List.erase_cons_head]; rfl)
    · exact (by rw [hlen, ← hcount] : s.reserved - 1 = (s.openCards.erase k.card).length)
    · have hroom' : s.log.length + s.reserved ≤ 1024 := hroom
      change (s.log ++ [r]).length + (s.reserved - 1) ≤ 1024
      rw [List.length_append, List.length_singleton]
      omega
  · change ((s.modBay c (clearedBay cause a)).bay d).hatch.cycle = none
    by_cases hd : d = c
    · subst hd; rw [bay_modBay_self]; rfl
    · rw [bay_modBay_ne hd]; exact hidle hp d

/-! ## A grant -/

/-- A container is open to presentations while it is started, not held, without a fault and not full (R12). -/
theorem opState_eq_opened {b : Bay} : opState b = .opened ↔
    b.record.started = true ∧ b.hold.requested = false ∧ b.record.fault = .none ∧ b.est.closeFlag = false := by
  unfold opState
  cases hs : b.record.started <;> cases hr : b.hold.requested <;> cases hc : b.cycleActive <;>
    cases hf : b.record.fault <;> cases he : b.est.closeFlag <;> simp

/-- The charge and a slot reserved, the card open and the cycle begun, at a container in service whose card is not open,
while the log has room and polling runs. -/
theorem keeps_grant {k : CardRecord} (hopened : opState (s.bay c) = .opened)
    (hfree : (s.bay c).hatch.cycle = none) (hcard : k.number ∉ s.openCards)
    (hroom : s.log.length + s.reserved < 1024) (hpoll : p → s.busAgrees → isPolling s.bus = true) :
    Keeps p q s (grant c k s) := by
  obtain ⟨hstarted, hhold, hfault, -⟩ := opState_eq_opened.1 hopened
  have hself := bay_modBay_self (s := s) (c := c) (f := fun b => { b with
    hatch := openCycle k (s.bay c).record.config.charge s.settings.tOw (stamp s) b.hatch })
  generalize hu : (s.modBay c fun b => { b with
    hatch := openCycle k (s.bay c).record.config.charge s.settings.tOw (stamp s) b.hatch }) = u at hself
  have hne (d : Box) (hd : d ≠ c) : u.bay d = s.bay d := by rw [← hu, bay_modBay_ne hd]
  have hcycle : Keeps p q s { s with
      bays := u.bays, openCards := s.openCards ++ [k.number], reserved := s.reserved + 1, log := s.log
      nextSequence := s.nextSequence } := by
    refine Keeps.cycleChange (fun d => ?_) (fun _ => List.prefix_rfl) ?_ id ?_
    · change BaySound (s.bay d) (u.bay d)
      by_cases hd : d = c
      · subst hd
        rw [hself]
        refine ⟨id, rfl, rfl, id, id, id, fun _ => ⟨?_, fun _ => ⟨hstarted, hfault⟩⟩,
          fun ⟨hmarks, hforced, htq⟩ => ⟨hmarks, hforced, ?_⟩⟩
        · simp [openCycle, Hatch.timersAgree]
        · simpa [hhold] using htq
      · rw [hne d hd]; exact BayKept.refl.toBaySound
    · rintro ⟨⟨hperm, hnodup, hcount⟩, -⟩
      have hact := activeCards_perm (s := u) (t := s)
        (k := ⟨k.number, k.household, (s.bay c).record.config.charge, stamp s, .granted, false⟩)
        (by rw [hself]; rfl) hfree fun d hd => by rw [hne d hd]
      refine ⟨⟨(List.perm_append_singleton ..).trans ((hperm.cons _).trans hact.symm), ?_, ?_⟩, ?_⟩
      · exact List.Nodup.append hnodup (by simp) (by simpa using hcard)
      · change s.reserved + 1 = (s.openCards ++ [k.number]).length
        rw [List.length_append, List.length_singleton, hcount]
      · change s.log.length + (s.reserved + 1) ≤ 1024
        omega
    · rintro hp hagrees
      refine ⟨⟨fun (hpoll' : isPolling s.bus = false) => ?_, hagrees.1.2⟩, hagrees.2⟩
      rw [hpoll hp hagrees] at hpoll'
      cases hpoll'
  have hcharge := hcycle.trans (keeps_modCard (p := p) (q := q) (n := k.number)
    (f := fun x => { x with remaining := x.remaining - (s.bay c).record.config.charge })
    (fun _ h => h) fun x _ _ h => (Nat.sub_le ..).trans h)
  rw [← hu] at hcharge
  exact hcharge

end Sys2Proof.Machine
end

section
/-! What the operations of the bus, the orders and the Fill Estimator keep, and the reading window (R37, R109, R111, R134). -/

namespace Sys2Proof.Machine

open Sys2Proof

variable {p q : Prop} {s t : State} {c d : Box}

/-! ## The bus -/

/-- A change of the bus that leaves its state and target alone. -/
theorem keeps_busRest {v : Bus} (hs : v.state = s.bus.state) (ht : v.target = s.bus.target)
    (hq : v.qualifier ≠ .off → s.bus.qualifier ≠ .off ∨ s.bus.state = .quiet)
    (hi : v.tInact = s.bus.tInact ∨ v.tInact.isSome = true ∧ s.bus.state = .woken)
    (hc : s.bus.counter ≤ 63 → v.counter ≤ 63)
    (hl : p → s.bus.state = .blocked → s.bus.slots = [] → v.slots = []) : Keeps p q s { s with bus := v } := by
  refine Keeps.busChange fun hp ⟨⟨hidle, hslots⟩, htarget, hqual, hinact, hcount⟩ => ?_
  have hpoll : isPolling v = isPolling s.bus := by simp only [isPolling, hs]
  refine ⟨⟨fun h => hidle (hpoll ▸ h), fun h => hl hp (hs ▸ h) (hslots (hs ▸ h))⟩, ?_, fun h => ?_, ?_, hc hcount⟩
  · rw [hs, ht]; exact htarget
  · rw [hs]; exact (hq h).elim hqual id
  · rw [hs]
    rcases hi with hi | ⟨hsome, hwoken⟩
    · rw [hi]; exact hinact
    · simp [hsome, hwoken]

/-- A change of the bus to a cycling state. -/
theorem keeps_busPolls {v : Bus} (hpoll : isPolling v = true) (hc : v.counter = s.bus.counter)
    (h : s.busAgrees → v.target = none ∧ v.qualifier = .off ∧ (v.tInact.isSome = true ↔ v.state = .woken)) :
    Keeps p q s { s with bus := v } := by
  have hb : v.state ≠ .blocked := fun e => by simp [isPolling, e] at hpoll
  refine Keeps.busChange fun _ hagrees => ?_
  obtain ⟨ht, hq, hi⟩ := h hagrees
  refine ⟨⟨fun (hp : isPolling v = false) => ?_, fun e => absurd e hb⟩, ?_, fun e => absurd hq e, hi, ?_⟩
  · rw [hpoll] at hp; cases hp
  · simp [ht, hb]
  · rw [hc]; exact hagrees.2.2.2.2

theorem keeps_setBusFlag {f : BusFlag} : Keeps p q s (setBusFlag f s) :=
  keeps_busRest rfl rfl .inl (.inl rfl) id fun _ _ h => h

theorem bayKept_resumeDemand {b : Bay} {len : Nat} : BayKept b { b with hatch := resumeDemand len b.hatch } := by
  refine BayKept.hatch rfl id id fun ⟨how, hdep, hk⟩ => ⟨how, hdep, fun k hmem => ⟨(hk k hmem).1, ?_⟩⟩
  have hsome : (resumeDemand len b.hatch).demand.isSome = b.hatch.demand.isSome := by
    unfold resumeDemand
    dsimp only
    split
    next h => rw [h]; rfl
    next => rfl
  rw [hsome]
  exact (hk k hmem).2

theorem keeps_startSlot : Keeps p q s (startSlot s) := by
  unfold startSlot
  split
  · dsimp only
    refine Keeps.trans ?_ (keeps_modColumn id id)
    exact Keeps.ite (fun _ => .refl) fun _ => Keeps.modBay bayKept_resumeDemand
  · exact .refl
  · exact .refl

/-- A cycle starts on a bus that is not Blocked. -/
theorem keeps_startCycle (h : p → s.bus.state ≠ .blocked) : Keeps p q s (startCycle s) := by
  refine Keeps.trans ?_ keeps_startSlot
  exact keeps_busRest rfl rfl .inl (.inl rfl) (fun _ => Nat.le_of_lt_succ (Nat.mod_lt _ (by decide)))
    fun hp hb => absurd hb (h hp)

theorem not_blocked_of_isPolling {b : Bus} (h : isPolling b = true) : b.state ≠ .blocked := fun e => by
  simp [isPolling, e] at h

theorem keeps_nextSlot : Keeps p q s (nextSlot s) := by
  unfold nextSlot
  split
  next h =>
    have hb := not_blocked_of_isPolling h
    split
    · exact keeps_startCycle fun _ => hb
    · refine Keeps.trans ?_ keeps_startSlot
      exact keeps_busRest rfl rfl .inl (.inl rfl) id fun _ e => absurd e hb
  next => exact keeps_busRest rfl rfl .inl (.inl rfl) id fun _ _ _ => rfl

theorem isSome_map_holdTimer {x : Option CloseTimer} : (x.map holdTimer).isSome = x.isSome :=
  Option.isSome_map

theorem bayKept_stopPollingBay {b : Bay} : BayKept b (stopPollingBay b) := by
  refine (BayKept.hatch (h := { b.hatch with demand := b.hatch.demand.map holdTimer }) rfl id id
    fun ⟨how, hdep, hk⟩ => ⟨how, hdep, fun k hmem => ?_⟩).trans
    (BayKept.column (k := { b.column with answer := none }) (x := none) id id)
  rw [isSome_map_holdTimer]
  exact hk k hmem

/-- The bus after the entry to Quiet (R37). -/
def quietBus (b : Bus) : Bus :=
  { b with
    state := .quiet, target := none, tInact := none, firstWake := false
    qualifier := recoveringFrom b, slots := b.slots.take 1 }

theorem enterQuiet_eq : enterQuiet s = { s with bays := (s.mapBays stopPollingBay).bays, bus := quietBus s.bus } := by
  simp only [enterQuiet, State.mapBays, quietBus]

@[simp] theorem bus_enterQuiet : (enterQuiet s).bus = quietBus s.bus := by
  rw [enterQuiet_eq]

/-- Quiet is entered with no cycle active. -/
theorem keeps_enterQuiet (h : p → ∀ c, (s.bay c).hatch.cycle = none) : Keeps p q s (enterQuiet s) := by
  have hbus : Keeps p q s { s with bus := quietBus s.bus } :=
    Keeps.busChange fun hp hagrees => ⟨⟨fun _ => h hp, fun e => (by cases e)⟩, by simp [quietBus], fun _ => rfl,
      by simp [quietBus], hagrees.2.2.2.2⟩
  refine hbus.trans ?_
  rw [enterQuiet_eq]
  exact Keeps.bays fun d => by
    change BayKept (s.bay d) ((s.mapBays stopPollingBay).bay d)
    rw [bay_mapBays]
    exact bayKept_stopPollingBay

theorem keeps_leaveForQuiet (h : p → s.bus.state = .active ∨ s.bus.state = .woken) :
    Keeps p q s (leaveForQuiet s) := by
  unfold leaveForQuiet
  split
  next he => exact keeps_enterQuiet fun _ => activeBoxes_isEmpty.1 he
  next =>
    refine Keeps.busChange fun hp ⟨_, htarget, hqual, _, hcount⟩ => ?_
    have hne : s.bus.state ≠ .blocked ∧ s.bus.state ≠ .quiet := by
      rcases h hp with e | e <;> simp [e]
    have hnone : s.bus.target = none := Option.not_isSome_iff_eq_none.1 fun e => hne.1 (htarget.1 e)
    exact ⟨⟨fun (e : true = false) => (by cases e), fun e => (by cases e)⟩, by simp [hnone],
      fun e => absurd (hqual e) hne.2, by simp, hcount⟩

theorem keeps_resumePolling {next : BusState} (hn : next = .active ∨ next = .woken)
    (hi : s.busAgrees → (s.bus.tInact.isSome = true ↔ next = .woken)) : Keeps p q s (resumePolling next s) := by
  have hpoll : isPolling { s.bus with state := next, target := none, qualifier := .off } = true := by
    rcases hn with rfl | rfl <;> rfl
  exact (keeps_busPolls hpoll rfl fun h => ⟨rfl, rfl, hi h⟩).trans
    (keeps_startCycle fun _ => not_blocked_of_isPolling hpoll)

/-! ## Orders -/

theorem keeps_finishOrder {r : OrderOutcome} {cause : Option FailCause} {m : Option Nat} :
    Keeps p q s (finishOrder c r cause m s) := by
  unfold finishOrder
  split
  · exact .refl
  · exact keeps_filterOrders.trans keeps_appendHistory

theorem keeps_returnOrder : Keeps p q s (returnOrder c s) := by
  unfold returnOrder
  split
  · exact .refl
  · split
    · exact keeps_finishOrder
    · exact keeps_modOrder (fun _ => rfl) fun ⟨_, hfits, _, _⟩ o ho _ =>
        ⟨⟨by simp, (hfits o ho).2⟩, fun h => (by cases h), fun h => (by cases h)⟩

/-- The orders of a list of one order per container that stand at the container of a member are that member. -/
theorem eq_of_mem_of_container {l : List Order} (h : (l.map Order.container).Nodup) {x y : Order} (hx : x ∈ l)
    (hy : y ∈ l) (hc : x.container = y.container) : x = y :=
  List.inj_on_of_nodup_map h hx hy hc

theorem orderOf_modOrder {f : Order → Order} (hc : ∀ o, (f o).container = o.container) :
    (s.modOrder c f).orderOf c = (s.orderOf c).map f := by
  have hp : ((fun x : Order => x.container == c) ∘ fun x => if x.container = c then f x else x) =
      fun x => x.container == c := by
    funext x
    by_cases hx : x.container = c <;> simp [hx, hc]
  rw [State.orderOf, State.modOrder, List.find?_map, hp]
  cases h : s.orderOf c with
  | none => rw [show List.find? _ s.orders = none from h]; rfl
  | some o =>
    rw [show List.find? _ s.orders = some o from h, Option.map_some, if_pos (mem_of_orderOf h).2, Option.map_some]

/-- The orders of the other containers are not touched by a change of one. -/
theorem filter_modOrder {f : Order → Order} (hc : ∀ o, (f o).container = o.container) :
    (s.modOrder c f).orders.filter (fun x => decide (x.container ≠ c)) =
      s.orders.filter fun x => decide (x.container ≠ c) := by
  simp only [State.modOrder]
  induction s.orders with
  | nil => rfl
  | cons x l ih =>
    simp only [List.map_cons, List.filter_cons, ih]
    by_cases hx : x.container = c <;> simp [hx, hc]

/-- An order that finishes after its marks were changed leaves the list as one that finishes unchanged. -/
theorem finishOrder_modOrder {f : Order → Order} (hc : ∀ o, (f o).container = o.container) {r : OrderOutcome}
    {cause : Option FailCause} {m : Option Nat} {o : Order} (h : s.orderOf c = some o) :
    finishOrder c r cause m (s.modOrder c f) =
      appendHistory (entryOf s (f o) r cause m)
        { s with orders := s.orders.filter fun x => decide (x.container ≠ c) } := by
  have hfound : (s.modOrder c f).orderOf c = some (f o) := by rw [orderOf_modOrder hc, h, Option.map_some]
  rw [finishOrder_some hfound, filter_modOrder hc]
  rfl

/-- An attempt that does not exhaust the order leaves room for another. -/
theorem attempts_of_not_exhausted {o : Order} (h : isExhausted o = false) : o.attempts ≤ 2 := by
  simp only [isExhausted, Bool.or_eq_false_iff, decide_eq_false_iff_not] at h
  omega

theorem keeps_failAttempt {cause : FailCause} : Keeps p q s (failAttempt c cause s) := by
  have hmap := orderOf_modOrder (s := s) (c := c) (f := fun o => { o with attempts := o.attempts + 1 }) fun _ => rfl
  unfold failAttempt
  dsimp only
  rw [hmap]
  cases h : s.orderOf c with
  | none =>
    exact keeps_remarkOrder (fun _ => rfl) (fun _ => rfl) (fun _ => rfl) fun _ o ho e =>
      absurd e (orderOf_eq_none.1 h o ho)
  | some o =>
    obtain ⟨hmem, hcont⟩ := mem_of_orderOf h
    dsimp only [Option.map_some]
    split
    · rw [finishOrder_modOrder (f := fun o => { o with attempts := o.attempts + 1 }) (fun _ => rfl) h]
      exact keeps_filterOrders.trans keeps_appendHistory
    next hex =>
      refine Keeps.trans ?_ keeps_returnOrder
      refine keeps_remarkOrder (fun _ => rfl) (fun _ => rfl) (fun _ => rfl)
        fun ⟨⟨hnodup, _⟩, hfits, _⟩ x hx e => ?_
      obtain rfl := eq_of_mem_of_container hnodup hx hmem (e.trans hcont.symm)
      exact ⟨(hfits x hx).2.1, attempts_of_not_exhausted (Bool.not_eq_true _ ▸ hex)⟩

/-- The order list and the counter after an evaluation keep the order relations. -/
theorem keeps_orderingOf {e : Estimate} : Keeps p q s { s with
    orders := (orderingOf c (s.bay c).record e s.orders s.orderCounter).1
    orderCounter := (orderingOf c (s.bay c).record e s.orders s.orderCounter).2 } := by
  unfold orderingOf
  cases h : s.orders.find? fun o => o.container == c with
  | none =>
    dsimp only
    split
    next hcalls =>
      have hstarted : (s.bay c).record.started = true := by
        rw [Bool.and_eq_true] at hcalls; exact hcalls.1
      refine keeps_addOrder (fun x hx => orderOf_eq_none.1 h x hx) hstarted ⟨by simp, ?_, by simp⟩ ?_ ?_
      · dsimp only; split <;> omega
      · exact fun e => (by cases e)
      · exact fun e => (by cases e)
    next => exact .refl
  | some o =>
    dsimp only
    split
    · exact keeps_remarkOrder (c := c) (f := fun o => { o with priority := max o.priority 3 }) (fun _ => rfl)
        (fun _ => rfl) (fun _ => rfl) fun ⟨_, hfits, _⟩ o ho _ =>
          ⟨max_le (hfits o ho).2.1 (le_refl 3), (hfits o ho).2.2⟩
    · exact .refl

/-! ## Fill estimation -/

theorem keeps_evaluate : Keeps p q s (evaluate c s) := by
  rw [evaluate_eq]
  have h := keeps_modEst (p := p) (q := q) (s := s) (c := c)
    (f := fun e => { e with closeFlag := flagAfter (s.bay c).record.config (s.bay c).est })
    (fun _ h => h) fun h => h
  have ho := h.trans (keeps_orderingOf (c := c) (e := (s.bay c).est))
  simp only [modEst_eq_modBay, bay_modBay_self] at ho
  exact ho

theorem inRange_addVolume {k : ContainerConfig} {e : Estimate} (h : e.inRange k) : (addVolume k e).inRange k := by
  obtain ⟨-, -, hbulk, -, hrest⟩ := h
  exact ⟨fill_addVolume_le, Nat.le_of_lt_succ rem_addVolume_lt, hbulk, Nat.min_le_left .., hrest⟩

theorem keeps_depositVolume : Keeps p q s (depositVolume c s) :=
  (keeps_modEst (fun _ h => inRange_addVolume h) fun h => h).trans keeps_evaluate

/-! ## The reading window -/

/-- Room is made: the first to arrive has left a full window, and the others keep their order of value and arrival. -/
theorem windowOrdered_makeRoom {w : List Reading} (h : windowOrdered w) :
    (makeRoom w).Pairwise (fun a b => a.value ≤ b.value) ∧ (makeRoom w).length ≤ 4 ∧
    ((makeRoom w).map Reading.rank).Perm (List.range' 1 (makeRoom w).length) := by
  obtain ⟨hpair, hlen, hperm⟩ := h
  unfold makeRoom
  split
  next hfull =>
    have h5 : w.length = 5 := by omega
    rw [h5] at hperm
    have hranks : ((w.filter fun r => decide (r.rank ≠ 1)).map Reading.rank).Perm [2, 3, 4, 5] := by
      have := hperm.filter (fun n => decide (n ≠ 1))
      rw [List.filter_map] at this
      exact this
    have hfl : (w.filter fun r => decide (r.rank ≠ 1)).length = 4 := by simpa using hranks.length_eq
    rw [List.length_map, hfl]
    refine ⟨List.pairwise_map.2 (hpair.filter _), le_refl 4, ?_⟩
    have := hranks.map (fun n => n - 1)
    change List.Perm _ [1, 2, 3, 4]
    simpa [Function.comp_def] using this
  next hroom => exact ⟨hpair, by omega, hperm⟩

theorem windowOrdered_fileReading {m : Nat} {w : List Reading} (h : windowOrdered w) :
    windowOrdered (fileReading m w) := by
  obtain ⟨hpair, hlen, hperm⟩ := windowOrdered_makeRoom h
  have hsplit := placeReading_split (r := ⟨m, (makeRoom w).length + 1⟩) (makeRoom w) hpair
  have hfile := length_fileReading (m := m) (w := w)
  refine ⟨?_, by omega, ?_⟩
  · obtain ⟨before, after, hw, hf, hb, ha⟩ := hsplit
    rw [fileReading, hf]
    rw [← hw, List.pairwise_append] at hpair
    obtain ⟨hbefore, hafter, hcross⟩ := hpair
    refine List.pairwise_append.2 ⟨hbefore, List.pairwise_cons.2 ⟨fun x hx => (ha x hx).le, hafter⟩, ?_⟩
    intro x hx y hy
    rcases List.mem_cons.1 hy with rfl | hy
    · exact hb x hx
    · exact hcross x hx y hy
  · rw [hfile, List.range'_1_concat]
    refine ((placeReading_perm _).map Reading.rank).trans ?_
    rw [List.map_cons]
    refine (List.Perm.cons _ hperm).trans ?_
    rw [Nat.add_comm 1]
    exact (List.perm_append_singleton ..).symm

theorem value_le_of_mem_makeRoom {w : List Reading} {n : Nat} (h : ∀ r ∈ w, r.value ≤ n) :
    ∀ r ∈ makeRoom w, r.value ≤ n := by
  unfold makeRoom
  split
  · intro r hr
    obtain ⟨x, hx, rfl⟩ := List.mem_map.1 hr
    exact h x (List.mem_of_mem_filter hx)
  · exact h

theorem toLitres_le_capacity {k : ContainerConfig} {n : Nat} : toLitres k n ≤ k.capacity := by
  rcases Nat.eq_zero_or_pos k.depth with h | h
  · simp [toLitres, h]
  · exact toLitres_le h

theorem keeps_takeLevel {l : LevelReading} : Keeps p q s (takeLevel c l s) := by
  unfold takeLevel
  split
  · exact .refl
  · split
    · exact .refl
    · refine keeps_modEst (fun _ h => h) fun ⟨hw, hv, hrest⟩ => ⟨windowOrdered_fileReading hw, fun r hr => ?_, hrest⟩
      rcases List.mem_cons.1 ((placeReading_perm _).mem_iff.1 hr) with rfl | hr
      · exact toLitres_le_capacity
      · exact value_le_of_mem_makeRoom hv r hr

/-! ## The period correction -/

theorem mem_of_measurement {w : List Reading} {m : Nat} (h : measurement w = some m) : ∃ r ∈ w, r.value = m := by
  unfold measurement at h
  split at h
  · obtain ⟨r, hr, rfl⟩ := Option.map_eq_some_iff.1 h
    exact ⟨r, List.mem_of_getElem? hr, rfl⟩
  · cases h

theorem inRange_correctRecord {k : ContainerConfig} {counts : Bool} {e : Estimate} (h : e.inRange k) :
    (correctRecord k counts e).inRange k := by
  obtain ⟨hnone, hsome⟩ := periodCorrectionOfARecord k counts e
  obtain ⟨hfill, hrem, hbulk, hvol, hfails, hclean, hsilent⟩ := h
  cases hm : measurement e.window with
  | none =>
    rw [hnone hm]
    refine ⟨?_, hrem, hbulk, hvol, hfails, hclean, ?_⟩
    · change Int.toNat _ ≤ 5 * k.capacity / 4
      omega
    · dsimp only; split <;> omega
  | some m =>
    rw [hsome m hm]
    refine ⟨?_, hrem, ?_, Nat.zero_le _, ?_, ?_, Nat.zero_le _⟩
    · change Int.toNat _ ≤ 5 * k.capacity / 4
      omega
    · dsimp only
      split
      · omega
      · exact hbulk
    · dsimp only; split <;> omega
    · dsimp only; split <;> omega

theorem measuresInRange_correctRecord {k : ContainerConfig} {counts : Bool} {e : Estimate}
    (h : e.measuresInRange k) : (correctRecord k counts e).measuresInRange k := by
  obtain ⟨hnone, hsome⟩ := periodCorrectionOfARecord k counts e
  obtain ⟨hw, hv, hprev, hlast, hadj⟩ := h
  have hempty : windowOrdered [] := ⟨.nil, by simp, by simp⟩
  cases hm : measurement e.window with
  | none =>
    rw [hnone hm]
    exact ⟨hempty, by simp, hprev, hlast, by simp⟩
  | some m =>
    obtain ⟨r, hr, rfl⟩ := mem_of_measurement hm
    rw [hsome _ hm]
    exact ⟨hempty, by simp, by simpa using hv r hr, by simpa using hv r hr, by simp⟩

theorem keeps_correct : Keeps p q s (correct c s) := by
  unfold correct
  dsimp only
  refine Keeps.trans ?_ keeps_evaluate
  have h : Keeps p q s (s.modEst c (correctRecord (s.bay c).record.config (periodCounts s c))) :=
    keeps_modEst (fun _ h => inRange_correctRecord h) fun h => measuresInRange_correctRecord h
  exact Keeps.ite (fun _ => h.trans keeps_raise) fun _ => h

theorem keeps_periodTick : Keeps p q s (periodTick s) :=
  Keeps.foldl (fun _ _ => Keeps.ite (fun _ => keeps_correct) fun _ => .refl) _ _

end Sys2Proof.Machine
end

section
/-! What the operations of the hatch cycles, of presentations and of slots keep (R24 to R31, R50 to R61, R72 to R80). -/

namespace Sys2Proof.Machine

open Sys2Proof

variable {p q : Prop} {s t : State} {c d : Box}

/-! ## The bus through the end of a cycle -/

/-- The bus as before, or a Draining bus entered Quiet. -/
abbrev BusSettles (s t : State) : Prop :=
  t.bus = s.bus ∨ s.bus.state = .draining ∧ t.bus = quietBus s.bus

theorem BusSettles.of_eq (h : t.bus = s.bus) : BusSettles s t :=
  .inl h

/-- A bus that settled stays as it is: only a Draining one enters Quiet. -/
theorem BusSettles.trans {u : State} (h : BusSettles s t) (k : BusSettles t u) : BusSettles s u := by
  rcases h with h | ⟨hs, h⟩
  · rw [BusSettles, ← h]; exact k
  · rcases k with k | ⟨ht, -⟩
    · exact .inr ⟨hs, k.trans h⟩
    · rw [h] at ht; cases ht

/-- A slot in progress is kept by the entry to Quiet. -/
theorem BusSettles.slots_ne_nil (h : BusSettles s t) (hs : s.bus.slots ≠ []) : t.bus.slots ≠ [] := by
  rcases h with h | ⟨-, h⟩
  · rwa [h]
  · rw [h]
    obtain ⟨x, l, e⟩ := List.exists_cons_of_ne_nil hs
    simp [quietBus, e]

@[simp] theorem bus_depositVolume : (depositVolume c s).bus = s.bus := by
  obtain ⟨_, _, _, h⟩ := depositVolume_frame (s := s) (c := c)
  rw [h]; rfl

@[simp] theorem settings_depositVolume : (depositVolume c s).settings = s.settings := by
  obtain ⟨_, _, _, h⟩ := depositVolume_frame (s := s) (c := c)
  rw [h]; rfl

theorem busSettles_endCycle {o : CycleOutcome} {cause : EndCause} : BusSettles s (endCycle c o cause s) := by
  cases h : (s.bay c).hatch.cycle with
  | none => rw [endCycle_none h]; exact .inl rfl
  | some k =>
    rw [endCycle_eq h]
    obtain ⟨he, hs, -⟩ | he := reportEndToBus_cases (s := cycleEnded c o cause k s)
    · rw [he]; exact .inr ⟨hs, bus_enterQuiet⟩
    · rw [he]; exact .inl rfl

/-- The cycle of a container is gone after its end. -/
theorem cycle_endCycle {o : CycleOutcome} {cause : EndCause} :
    ((endCycle c o cause s).bay c).hatch.cycle = none := by
  cases h : (s.bay c).hatch.cycle with
  | none => rw [endCycle_none h]; exact h
  | some k =>
    have hc : ((cycleEnded c o cause k s).bay c).hatch.cycle = none := by
      simp [cycleEnded, State.bay, endedBay]
    rw [endCycle_eq h]
    obtain ⟨he, -, -⟩ | he := reportEndToBus_cases (s := cycleEnded c o cause k s)
    · rw [he, bay_enterQuiet]; exact hc
    · rw [he]; exact hc

/-! ## The end of a cycle -/

theorem keeps_reportEndToBus : Keeps p q s (reportEndToBus s) := by
  obtain ⟨he, -, hnone⟩ | he := reportEndToBus_cases (s := s)
  · rw [he]; exact keeps_enterQuiet fun _ => hnone
  · rw [he]; exact .refl

/-- A close demand starts where no cycle is active, or one whose deposit is confirmed. -/
theorem keeps_startDemand (h : ∀ k ∈ (s.bay c).hatch.cycle, k.phase = .deposited) : Keeps p q s (startDemand c s) := by
  rw [startDemand_eq]
  refine Keeps.modBay (BayKept.hatch rfl id id fun ⟨how, hdep, hk⟩ => ⟨how, hdep, fun k hmem => ⟨(hk k hmem).1, ?_⟩⟩)
  have hsome {l b : Bool} {n : Nat} {x : Option CloseTimer} : (startedDemand l b n x).isSome = true := by
    unfold startedDemand
    split
    · rfl
    · split <;> rfl
  simp [hsome, h k hmem]

theorem keeps_demandAtEnd {cause : EndCause} (h : (s.bay c).hatch.cycle = none) :
    Keeps p q s (demandAtEnd c cause s) := by
  have hd := keeps_startDemand (p := p) (q := q) (s := s) (c := c) (by simp [h])
  cases cause
  · exact .refl
  · exact hd
  · exact .refl
  · exact hd

/-- The records of a container after a deposit volume: only the estimate record changes. -/
theorem bay_depositVolume_self : ∃ e, (depositVolume c s).bay c = { s.bay c with est := e } := by
  obtain ⟨flag, l, n, e⟩ := depositVolume_frame (s := s) (c := c)
  exact ⟨_, (bay_of_bays_eq (s := s.modBay c fun b => { b with
    est := { addVolume (s.bay c).record.config b.est with closeFlag := flag } }) (by rw [e])).trans bay_modBay_self⟩

theorem hatch_volumeAtEnd {o : CycleOutcome} {k : Cycle} :
    ((volumeAtEnd c o k s).bay c).hatch = (s.bay c).hatch := by
  unfold volumeAtEnd
  split
  · obtain ⟨e, he⟩ := bay_depositVolume_self (s := s) (c := c)
    rw [he]
  · rfl

theorem keeps_volumeAtEnd {o : CycleOutcome} {k : Cycle} : Keeps p q s (volumeAtEnd c o k s) :=
  Keeps.ite (fun _ => keeps_depositVolume) fun _ => .refl

/-- The state after a cycle has gone, settled and with its hold record: what the end of a cycle does before the volume, the
close demand and the report to the bus. A fault may be set with it. -/
def cycleGone (c : Box) (o : CycleOutcome) (cause : EndCause) (a : FaultAttr) (k : Cycle) (s : State) : State :=
  { s with
    bays := (s.modBay c (clearedBay cause a)).bays
    openCards := s.openCards.erase k.card, reserved := s.reserved - 1, cards := settledCards o k s
    log := s.log ++ [recordOf { s with cards := settledCards o k s } c o k]
    nextSequence := (s.nextSequence + 1) % 4294967296
    port := if s.log.length + 1 = 768 then (raise .logHigh s).port else s.port }

/-- A fault set during a cycle and the end of the cycle with it. -/
theorem endCycle_faulted {o : CycleOutcome} {cause : EndCause} {a : FaultAttr} {k : Cycle}
    (h : (s.bay c).hatch.cycle = some k) : endCycle c o cause (s.modRecord c fun r => { r with fault := a }) =
      reportEndToBus (demandAtEnd c cause (volumeAtEnd c o k (cycleGone c o cause a k s))) := by
  have h' : ((s.modRecord c fun r => { r with fault := a }).bay c).hatch.cycle = some k := by simpa using h
  rw [endCycle_eq h', demandAtEnd_eq, volumeAtEnd_of_agree (s := s.modRecord c fun r => { r with fault := a })
    (t := cycleGone c o cause a k s) (by simp [cycleGone, State.modBay, State.bay, clearedBay])
    (by simp [cycleGone, State.modBay, State.bay, clearedBay]) rfl rfl]
  congr 1
  simp [cycleEnded, endedBay, cycleGone, clearedBay, State.modBay, State.bay, settledCards, refund, State.modCard,
    recordOf, State.cardOf, planValue, raise]

theorem keeps_cycleGone_state {o : CycleOutcome} {cause : EndCause} {a : FaultAttr} {k : Cycle}
    (h : (s.bay c).hatch.cycle = some k) : Keeps p q s (cycleGone c o cause a k s) := by
  have hcards : Keeps p q s { s with cards := settledCards o k s } := by
    unfold settledCards
    split
    · exact .refl
    · exact keeps_refund
  have hport := hcards.trans (Keeps.port (p := p) (q := q)
    (v := if s.log.length + 1 = 768 then (raise .logHigh s).port else s.port) fun hl => by
      split
      · exact lineAgrees_followLine
      · exact hl)
  exact hport.trans (keeps_cycleGone (cause := cause) (a := a)
    (r := recordOf { s with cards := settledCards o k s } c o k) h rfl)

theorem keeps_endCycle_faulted {o : CycleOutcome} {cause : EndCause} {a : FaultAttr} {k : Cycle}
    (h : (s.bay c).hatch.cycle = some k) :
    Keeps p q s (endCycle c o cause (s.modRecord c fun r => { r with fault := a })) := by
  rw [endCycle_faulted h]
  have hgone : ((volumeAtEnd c o k (cycleGone c o cause a k s)).bay c).hatch.cycle = none := by
    rw [hatch_volumeAtEnd]
    simp [cycleGone, State.modBay, State.bay, clearedBay]
  refine Keeps.trans ?_ keeps_reportEndToBus
  refine Keeps.trans ?_ (keeps_demandAtEnd hgone)
  exact (keeps_cycleGone_state h).trans keeps_volumeAtEnd

theorem modRecord_fault_self : (s.modRecord c fun r => { r with fault := (s.bay c).record.fault }) = s :=
  modBay_id rfl

theorem keeps_endCycle {o : CycleOutcome} {cause : EndCause} : Keeps p q s (endCycle c o cause s) := by
  cases h : (s.bay c).hatch.cycle with
  | none => rw [endCycle_none h]; exact .refl
  | some k =>
    have := keeps_endCycle_faulted (p := p) (q := q) (o := o) (cause := cause) (a := (s.bay c).record.fault) h
    rwa [modRecord_fault_self] at this

/-- A fault set at a container without a cycle. -/
theorem keeps_fault {a : FaultAttr} (h : (s.bay c).hatch.cycle = none) :
    Keeps p q s (s.modRecord c fun r => { r with fault := a }) :=
  Keeps.modBay ⟨{ BayKept.refl (b := s.bay c) with
    hatches := fun ⟨ht, _⟩ => ⟨ht, fun (ha : (s.bay c).hatch.cycle.isSome = true) => by rw [h] at ha; cases ha⟩ }, rfl⟩

/-- A fault set with its item, and the end of the cycle there may be. -/
theorem keeps_faultEnds {o : CycleOutcome} {a : FaultAttr} :
    Keeps p q s (endCycle c o .other (raise .containerFault (s.modRecord c fun r => { r with fault := a }))) := by
  have hcomm : raise .containerFault (s.modRecord c fun r => { r with fault := a }) =
      (raise .containerFault s).modRecord c fun r => { r with fault := a } := rfl
  rw [hcomm]
  refine Keeps.trans (keeps_raise (i := .containerFault)) ?_
  cases h : (s.bay c).hatch.cycle with
  | none =>
    refine Keeps.trans (keeps_fault (s := raise .containerFault s) (c := c) (a := a) h) ?_
    exact keeps_endCycle
  | some k => exact keeps_endCycle_faulted h

/-- A HatchJam request ends the cycle there may be. -/
theorem requestHatchJam_eq : ∃ o, requestHatchJam c s = endCycle c o .other (setHatchJam c s) := by
  unfold requestHatchJam
  dsimp only
  cases h : ((setHatchJam c s).bay c).hatch.cycle with
  | none => exact ⟨.deposit, (endCycle_none h).symm⟩
  | some k => exact ⟨_, rfl⟩

theorem keeps_requestHatchJam : Keeps p q s (requestHatchJam c s) := by
  obtain ⟨o, h⟩ := requestHatchJam_eq (s := s) (c := c)
  rw [h, setHatchJam]
  split
  · exact keeps_faultEnds
  · exact keeps_endCycle

/-! ## Drum turns and hatch reports -/

theorem depositVolume_modHatch {f : Hatch → Hatch} :
    depositVolume c (s.modHatch c f) = (depositVolume c s).modHatch c f := by
  rw [depositVolume_of_agree (s := s) (t := s.modHatch c f) (by simp) (by simp) rfl rfl]
  obtain ⟨flag, l, n, e⟩ := depositVolume_frame (s := s) (c := c)
  rw [e]
  simp [State.modBay, State.bay]

/-- The hatch record after a confirmed deposit, its close demand standing (R53, R55). -/
def depositedHatch (k : Cycle) (lost polling : Bool) (len : Nat) (h : Hatch) : Hatch :=
  { h with
    cycle := some { k with phase := .deposited, confirmed := true }, tOw := none, tDep := none
    demand := startedDemand lost polling len h.demand }

theorem confirmDeposit_eq {k : Cycle} : confirmDeposit c k s = (depositVolume c s).modHatch c
    (depositedHatch k (s.bay c).column.lost (isPolling s.bus) s.settings.tCl) := by
  obtain ⟨e, he⟩ := bay_depositVolume_self (s := s) (c := c)
  unfold confirmDeposit
  dsimp only
  rw [depositVolume_modHatch, startDemand_eq]
  simp only [modHatch_eq_modBay, modBay_modBay]
  refine modBay_congr ?_
  rw [he]
  simp [depositedHatch]

theorem keeps_takeTurn : Keeps p q s (takeTurn c s) := by
  obtain ⟨k, hk, -, h⟩ | h := takeTurn_cases (s := s) (c := c)
  · rw [h, confirmDeposit_eq]
    obtain ⟨e, he⟩ := bay_depositVolume_self (s := s) (c := c)
    refine keeps_depositVolume.trans (keeps_modHatch ?_ ?_ ?_ ?_) <;> rw [he]
    · simp [depositedHatch, hk]
    · exact id
    · exact id
    · have hsome {l b : Bool} {n : Nat} {x : Option CloseTimer} : (startedDemand l b n x).isSome = true := by
        unfold startedDemand
        split
        · rfl
        · split <;> rfl
      intro _
      simp [depositedHatch, Hatch.timersAgree, hsome]
  · rw [h]
    exact keeps_depositVolume.trans (keeps_modHatch rfl (fun _ => bump_le) id id)

theorem keeps_takeTurns : ∀ (n : Nat) (s : State), Keeps p q s (takeTurns c n s)
  | 0, _ => .refl
  | n + 1, s => keeps_takeTurn.trans (keeps_takeTurns n (takeTurn c s))

/-- After a Closed report no cycle is left but one still in Granted. -/
theorem cycle_closedEnds : ∀ k ∈ ((closedEnds c s).bay c).hatch.cycle, k.phase = .granted := by
  unfold closedEnds
  cases h : (s.bay c).hatch.cycle with
  | none => simp [h]
  | some k =>
    dsimp only
    cases hp : k.phase with
    | granted => simp [h, hp]
    | opened => simp [cycle_endCycle]
    | deposited => simp [cycle_endCycle]

theorem keeps_closedEnds : Keeps p q s (closedEnds c s) := by
  unfold closedEnds
  split
  · exact .refl
  · split
    · exact .refl
    · exact keeps_endCycle
    · exact keeps_endCycle

theorem keeps_openedReport : Keeps p q s (openedReport c s) := by
  unfold openedReport
  split
  · exact .refl
  next k hk =>
    split
    next hp =>
      refine keeps_modHatch (by simp [hk]) id id fun ⟨_, _, hcycle⟩ => ?_
      obtain ⟨hconf, hdem⟩ := hcycle k hk
      simp only [hp, reduceCtorEq, iff_false] at hconf hdem
      simp [Hatch.timersAgree, hconf, hdem]
    next => exact .refl

theorem keeps_hatchReport {h : HatchState} : Keeps p q s (hatchReport c h s) := by
  cases h with
  | closed =>
    refine Keeps.trans (keeps_closedEnds (c := c)) ?_
    refine keeps_modHatch (s := closedEnds c s) (c := c) (f := fun h => { h with demand := none }) rfl id id
      fun ⟨how, hdep, hk⟩ => ⟨how, hdep, fun k hmem => ?_⟩
    have hp := cycle_closedEnds k hmem
    exact ⟨(hk k hmem).1, by simp [hp]⟩
  | opening => exact .refl
  | opened => exact keeps_openedReport
  | closing => exact .refl
  | jammed => exact keeps_requestHatchJam

theorem keeps_takeHatch {returned : Bool} {u : Uplink} : Keeps p q s (takeHatch c returned u s) := by
  unfold takeHatch
  dsimp only
  have hbase : Keeps p q s (s.modHatch c fun h => { h with baseline := some u.drum.toNat }) :=
    keeps_modHatch rfl id (fun _ n hn => by
      obtain rfl := Option.some.inj hn
      exact Nat.le_of_lt_succ u.drum.isLt) id
  have h := hbase.trans ((keeps_takeTurns (c := c) (turnsOf (s.bay c).hatch.baseline returned u.drum.toNat) _).trans
    (keeps_hatchReport (c := c) (h := u.hatch)))
  exact Keeps.ite (fun _ => h.trans (Keeps.modBay bayKept_resumeDemand)) fun _ => h

/-! ## The bus through a Valid uplink -/

theorem bus_takeTurn : (takeTurn c s).bus = s.bus := by
  obtain ⟨k, -, -, h⟩ | h := takeTurn_cases (s := s) (c := c)
  · simp [h, confirmDeposit_eq]
  · simp [h, strayTurn]

theorem bus_takeTurns : ∀ (n : Nat) (s : State), (takeTurns c n s).bus = s.bus
  | 0, _ => rfl
  | n + 1, s => (bus_takeTurns n (takeTurn c s)).trans bus_takeTurn

theorem bus_setHatchJam : (setHatchJam c s).bus = s.bus := by
  unfold setHatchJam
  split <;> rfl

theorem busSettles_hatchReport {h : HatchState} : BusSettles s (hatchReport c h s) := by
  cases h with
  | closed =>
    refine BusSettles.trans (t := closedEnds c s) ?_ (.inl rfl)
    unfold closedEnds
    split
    · exact .inl rfl
    · split
      · exact .inl rfl
      · exact busSettles_endCycle
      · exact busSettles_endCycle
  | opening => exact .inl rfl
  | opened =>
    refine .inl ?_
    change (openedReport c s).bus = s.bus
    unfold openedReport
    split
    · rfl
    · split <;> rfl
  | closing => exact .inl rfl
  | jammed =>
    obtain ⟨o, h⟩ := requestHatchJam_eq (s := s) (c := c)
    change BusSettles s (requestHatchJam c s)
    rw [h]
    exact BusSettles.trans (.inl bus_setHatchJam) busSettles_endCycle

theorem busSettles_takeHatch {returned : Bool} {u : Uplink} : BusSettles s (takeHatch c returned u s) := by
  unfold takeHatch
  dsimp only
  generalize hu : takeTurns c _ _ = v
  have hv : v.bus = s.bus := by rw [← hu, bus_takeTurns]; rfl
  have hr : BusSettles s (hatchReport c u.hatch v) := BusSettles.trans (.inl hv) busSettles_hatchReport
  split
  · exact hr
  · exact hr

theorem bus_takeLevel {l : LevelReading} : (takeLevel c l s).bus = s.bus := by
  unfold takeLevel
  split
  · rfl
  · split <;> rfl

theorem bus_deliver {card : Option Nat} : (deliver c card s).bus = s.bus := by
  unfold deliver
  split <;> rfl

/-! ## Presentations -/

theorem keeps_deny {r : DenialReason} : Keeps p q s (deny c r s) := by
  unfold deny
  dsimp only
  refine Keeps.trans (Keeps.denials (v := s.denials.set (reasonIndex r) (bump 65535 s.denials[reasonIndex r]))
    fun h i => ?_) (Keeps.modBay ⟨{ BayKept.refl with counters := fun ⟨_, hrest⟩ => ⟨bump_le, hrest⟩ }, rfl⟩)
  simp only [Fin.getElem_fin, Vector.getElem_set]
  split
  · exact bump_le
  · exact h i

theorem keeps_sight {k : CardRecord} : Keeps p q s (sight c k s) :=
  Keeps.ite (fun _ => Keeps.sighting.trans keeps_raise) fun _ => .refl

/-- A card that no check denies finds its container open, free and polled, its own cycle not begun, and room in the log. -/
theorem denialOfKnown_eq_none {k : CardRecord} {draining : Bool} (h : denialOfKnown s c k draining = none) :
    opState (s.bay c) = .opened ∧ draining = false ∧ (s.bay c).hatch.cycle = none ∧ k.number ∉ s.openCards ∧
      s.log.length + s.reserved < 1024 := by
  unfold denialOfKnown at h
  dsimp only at h
  split_ifs at h with h₁ h₂ h₃ h₄ h₅ h₆ h₇ h₈ h₉ h₁₀
  rw [outOfService_iff] at h₄
  push Not at h₄
  refine ⟨?_, by simpa using h₄.2.2.2.2, by simpa [cycleActive_iff] using h₇, by simpa using h₈, by omega⟩
  cases ho : opState (s.bay c) <;> simp_all

theorem keeps_decidePresentation {card : Nat} (hs : s.bus.slots ≠ []) :
    Keeps p q s (decidePresentation c card (drainingMark s.bus) s).2 := by
  unfold decidePresentation
  split
  · exact keeps_deny
  next k _ =>
    split
    · exact keeps_deny.trans keeps_sight
    · exact keeps_deny
    next hnone =>
      obtain ⟨hopened, hmark, hfree, hcard, hroom⟩ := denialOfKnown_eq_none hnone
      refine keeps_grant hopened hfree hcard hroom fun _ ⟨⟨_, hblocked⟩, _⟩ => ?_
      have hne : s.bus.state ≠ .blocked := fun e => hs (hblocked e)
      cases hb : s.bus.state <;> simp_all [drainingMark, isPolling]

theorem keeps_newPresentation {card : Nat} (hs : s.bus.slots ≠ []) : Keeps p q s (newPresentation c card s) := by
  unfold newPresentation
  dsimp only
  refine Keeps.trans ?_ (keeps_modColumn id id)
  generalize hu : (if s.bus.state = .woken then
    { s with bus := { s.bus with tInact := some s.settings.tInact } } else s) = u
  have hkeeps : Keeps p q s u ∧ u.bus.slots = s.bus.slots := by
    rw [← hu]
    split
    next hw => exact ⟨keeps_busRest rfl rfl .inl (.inr ⟨rfl, hw⟩) id fun _ _ h => h, rfl⟩
    next => exact ⟨.refl, rfl⟩
  have hd : Keeps p q u (u.setDisplay c none) := Keeps.modBay (BayKept.column (k := (u.bay c).column) id id)
  exact hkeeps.1.trans (hd.trans (keeps_decidePresentation (s := u.setDisplay c none) (by
    change u.bus.slots ≠ []; rw [hkeeps.2]; exact hs)))

theorem keeps_deliver {card : Option Nat} : Keeps p q s (deliver c card s) :=
  Keeps.ite (fun _ => Keeps.modBay (BayKept.column id id)) fun _ => .refl

theorem keeps_takePresentation {card : Option Nat} (hs : s.bus.slots ≠ []) :
    Keeps p q s (takePresentation c card s) := by
  unfold takePresentation
  dsimp only
  split
  · exact keeps_deliver
  · exact Keeps.ite (fun _ => keeps_deliver)
      fun _ => keeps_deliver.trans (keeps_newPresentation (by rwa [bus_deliver]))

/-! ## Slots -/

theorem keeps_columnReturn : Keeps p q s (columnReturn c s) := by
  unfold columnReturn
  dsimp only
  refine Keeps.trans (keeps_modColumn id id) (Keeps.modBay ⟨{ BayKept.refl with
    hatches := fun ⟨ht, hf⟩ => ⟨ht, fun ha => ⟨(hf ha).1, ?_⟩⟩ }, rfl⟩)
  have := (hf ha).2
  dsimp only
  split
  · rfl
  · exact this

theorem keeps_validUplink {u : Uplink} (hs : s.bus.slots ≠ []) : Keeps p q s (validUplink c u s) := by
  unfold validUplink
  dsimp only
  generalize hv : (if (s.bay c).column.lost = true then
    columnReturn c (s.modColumn c fun k => { k with consecutive := 0 })
    else s.modColumn c fun k => { k with consecutive := 0 }) = v
  have hkeeps : Keeps p q s v ∧ v.bus = s.bus := by
    have h : Keeps p q s (s.modColumn c fun k => { k with consecutive := 0 }) :=
      keeps_modColumn (fun _ => Nat.zero_le _) id
    rw [← hv]
    split
    · exact ⟨h.trans keeps_columnReturn, rfl⟩
    · exact ⟨h, rfl⟩
  generalize hw : takeHatch c (s.bay c).column.lost u (v.modColumn c fun k => { k with last := some (lastOf u) }) = w
  have hhatch : Keeps p q s w ∧ w.bus.slots ≠ [] := by
    rw [← hw]
    refine ⟨hkeeps.1.trans ((keeps_modColumn id id).trans keeps_takeHatch), ?_⟩
    refine busSettles_takeHatch.slots_ne_nil ?_
    rw [modColumn_eq_modBay, bus_modBay, hkeeps.2]
    exact hs
  cases u.level with
  | none => exact hhatch.1.trans (keeps_takePresentation hhatch.2)
  | some l => exact hhatch.1.trans (keeps_takeLevel.trans (keeps_takePresentation (by
      rw [bus_takeLevel]; exact hhatch.2)))

theorem keeps_markLost : Keeps p q s (markLost c s) := by
  unfold markLost
  dsimp only
  refine Keeps.trans ?_ (Keeps.modBay (BayKept.column id id))
  refine Keeps.trans (keeps_modColumn (c := c) (f := fun k => { k with lost := true }) id id) ?_
  refine Keeps.trans (keeps_modHatch (c := c) (f := fun h => { h with demand := h.demand.map holdTimer }) rfl id id
    fun ⟨how, hdep, hk⟩ => ⟨how, hdep, fun k hmem => ?_⟩) ?_
  · rw [isSome_map_holdTimer]
    exact hk k hmem
  · unfold requestColumnLost
    split
    · exact keeps_faultEnds
    · exact keeps_endCycle

theorem keeps_nonValidSlot : Keeps p q s (nonValidSlot c s) := by
  unfold nonValidSlot
  dsimp only
  have h : Keeps p q s (s.modColumn c fun k =>
      { k with consecutive := bump 15 k.consecutive, total := bump 65535 k.total }) :=
    keeps_modColumn (fun _ => bump_le) fun _ => bump_le
  exact Keeps.ite (fun _ => h.trans keeps_markLost) fun _ => h

theorem keeps_slotEnds {rx : SlotRx} : Keeps p q s (slotEnds rx s) := by
  unfold slotEnds
  split
  · exact .refl
  · exact keeps_nextSlot
  next c rest he =>
    refine Keeps.trans ?_ keeps_nextSlot
    unfold handleSlot
    split
    · exact keeps_setBusFlag.trans (keeps_validUplink (by
        change s.bus.slots ≠ []; rw [he]; exact List.cons_ne_nil _ _))
    · exact keeps_setBusFlag.trans keeps_nonValidSlot
    · exact keeps_setBusFlag.trans keeps_nonValidSlot
    · exact keeps_setBusFlag.trans keeps_nonValidSlot

end Sys2Proof.Machine
end

section
/-! What the events of the line, the entry to Blocked, the expiries, and the commands of bus, attention and port keep
(R35 to R43, R52, R56, R182, R189 to R198). -/

namespace Sys2Proof.Machine

open Sys2Proof

variable {p q : Prop} {s t : State} {c d : Box}

/-! ## The inlet line -/

theorem keeps_edge {level : LineLevel} {n : Nat} {b : Bool} :
    Keeps p q s { s with bus := edge level n b s.bus } := by
  unfold edge
  split
  · exact .refl
  · refine keeps_busRest rfl rfl (fun h => ?_) (.inl rfl) id fun _ _ h => h
    dsimp only [qualifierAtEdge] at h
    split at h
    next hq => exact .inr hq.1
    next => exact .inl h

theorem keeps_wakes : Keeps p q s (wakes s) := by
  unfold wakes
  dsimp only
  refine Keeps.trans (keeps_setBusFlag (f := .wakeSeen)) ?_
  generalize setBusFlag .wakeSeen s = u
  have hw : Keeps p q u (if u.bus.firstWake then u
      else raise .wake { u with bus := { u.bus with firstWake := true } }) := by
    split
    · exact .refl
    · exact (keeps_busRest (v := { u.bus with firstWake := true }) rfl rfl .inl (.inl rfl) id fun _ _ h => h).trans
        keeps_raise
  refine hw.trans ?_
  generalize (if u.bus.firstWake = true then u
    else raise .wake { u with bus := { u.bus with firstWake := true } }) = v
  exact Keeps.trans (t := { v with bus := { v.bus with
      state := .woken, target := none, qualifier := .off, tInact := some v.settings.tInact } })
    (keeps_busPolls rfl rfl fun _ => ⟨rfl, rfl, by simp⟩) (keeps_startCycle fun _ e => (by cases e))

theorem keeps_tfElapses : Keeps p q s (tfElapses s) := by
  unfold tfElapses
  dsimp only
  have h : Keeps p q s { s with bus := { s.bus with heldTf := true } } :=
    keeps_busRest rfl rfl .inl (.inl rfl) id fun _ _ h => h
  refine Keeps.ite (fun hq => h.trans ?_) fun _ => h
  generalize hu : { s with bus := { s.bus with heldTf := true } } = u
  have hquiet : u.bus.state = .quiet := by rw [← hu]; exact hq
  have hqual (x : Qualifier) : Keeps p q u { u with bus := { u.bus with qualifier := x } } :=
    keeps_busRest rfl rfl (fun _ => .inr hquiet) (.inl rfl) id fun _ _ h => h
  unfold qualifierAtTf
  split
  · exact .refl
  · exact .refl
  · exact Keeps.ite (fun _ => hqual _) fun _ => .refl
  · refine Keeps.ite (fun _ => Keeps.ite (fun _ => hqual _) fun _ => keeps_wakes) fun _ => .refl

theorem keeps_windowExpires : Keeps p q s { s with bus := windowExpires s.bus } := by
  unfold windowExpires
  split
  · split
    next hq => exact keeps_busRest rfl rfl (fun _ => .inr hq) (.inl rfl) id fun _ _ h => h
    next => exact .refl
  · exact .refl
  · exact .refl
  · exact .refl

theorem keeps_recovers : Keeps p q s (recovers s) := by
  unfold recovers
  split
  next hb _ _ =>
    refine keeps_resumePolling (.inl rfl) fun ⟨_, hmodes⟩ => ?_
    rw [hmodes.2.2.1, hb]
    simp
  next hb _ _ =>
    rw [enterQuiet_eq]
    have hbus : Keeps p q s { s with bus := quietBus s.bus } :=
      Keeps.busChange fun _ ⟨⟨hidle, _⟩, _, _, _, hcount⟩ => ⟨⟨fun _ => hidle (by simp [isPolling, hb]),
        fun e => (by cases e)⟩, by simp [quietBus], fun _ => rfl, by simp [quietBus], hcount⟩
    refine hbus.trans (Keeps.bays fun d => ?_)
    change BayKept (s.bay d) ((s.mapBays stopPollingBay).bay d)
    rw [bay_mapBays]
    exact bayKept_stopPollingBay
  · exact .refl

/-! ## The entry to Blocked -/

/-- The end of one cycle leaves every other. -/
theorem cycle_endCycle_eq {o : CycleOutcome} {cause : EndCause} : ((endCycle c o cause s).bay d).hatch.cycle =
    if d = c then none else (s.bay d).hatch.cycle := by
  split
  next hd => rw [hd]; exact cycle_endCycle
  next hd =>
    cases h : (s.bay c).hatch.cycle with
    | none => rw [endCycle_none h]
    | some k =>
      have hc : ((cycleEnded c o cause k s).bay d).hatch.cycle = (s.bay d).hatch.cycle := by
        have : (cycleEnded c o cause k s).bay d = s.bay d := by
          simp only [cycleEnded, State.bay]
          exact Vector.getElem_set_ne _ _ fun e => hd (Fin.ext e.symm)
        rw [this]
      rw [endCycle_eq h]
      obtain ⟨he, -, -⟩ | he := reportEndToBus_cases (s := cycleEnded c o cause k s)
      · rw [he, bay_enterQuiet]; exact hc
      · rw [he]; exact hc

/-- A run over a list that ends the cycle of each container it names leaves no cycle elsewhere than where none of the
list was. -/
theorem cycle_foldl {f : State → Box → State}
    (hf : ∀ u c d, ((f u c).bay d).hatch.cycle = if d = c then none else (u.bay d).hatch.cycle) :
    ∀ (l : List Box) (s : State), (∀ d, d ∉ l → (s.bay d).hatch.cycle = none) →
      ∀ d, ((l.foldl f s).bay d).hatch.cycle = none
  | [], _, h, d => h d List.not_mem_nil
  | c :: l, s, h, d => by
    refine cycle_foldl hf l (f s c) (fun e he => ?_) d
    rw [hf]
    split
    · rfl
    next hne => exact h e fun hmem => (List.mem_cons.1 hmem).elim hne he

/-- The containers of a free order of the active ones: elsewhere no cycle is active. -/
theorem cycle_of_not_mem_freeOrder {n : Nat} (h : d ∉ freeOrder n (activeBoxes s)) :
    (s.bay d).hatch.cycle = none := by
  rw [mem_freeOrder, mem_activeBoxes] at h
  simpa [Bay.cycleActive] using h

theorem cycle_endBlocked : ((endBlocked s c).bay d).hatch.cycle = if d = c then none else (s.bay d).hatch.cycle := by
  rw [endBlocked, modHatch_eq_modBay, bay_modBay, ← cycle_endCycle_eq (o := .unconfirmed) (cause := .other)]
  split
  next hd => rw [hd]
  next => rfl

/-- A bus that is not Draining stays as it is through the ends of cycles. -/
theorem bus_foldl_endBlocked : ∀ (l : List Box) (s : State), s.bus.state ≠ .draining →
    (l.foldl endBlocked s).bus = s.bus
  | [], _, _ => rfl
  | c :: l, s, h => by
    have hb : (endBlocked s c).bus = s.bus := by
      obtain he | ⟨he, -⟩ := busSettles_endCycle (s := s) (c := c) (o := .unconfirmed) (cause := .other)
      · exact he
      · exact absurd he h
    rw [List.foldl_cons, bus_foldl_endBlocked l _ (by rwa [hb]), hb]

/-- The state of an entry to Blocked before its flag and its item. -/
def blockedState (s : State) : State :=
  ((freeOrder s.draws (activeBoxes s)).foldl endBlocked
    { s with bus := blockedBus s.bus, draws := s.draws + 1 }).mapBays stopPollingBay

theorem bus_blockedState : (blockedState s).bus = blockedBus s.bus := by
  rw [blockedState, bus_mapBays, bus_foldl_endBlocked _ _ (by simp [blockedBus])]

theorem cycle_blockedState : ((blockedState s).bay d).hatch.cycle = none := by
  rw [blockedState, bay_mapBays]
  exact cycle_foldl (f := endBlocked) (fun u c e => cycle_endBlocked) _
    { s with bus := blockedBus s.bus, draws := s.draws + 1 }
    (fun e he => cycle_of_not_mem_freeOrder (s := s) he) d

theorem busAgrees_blockedState (h : s.busAgrees) : (blockedState s).busAgrees := by
  obtain ⟨-, -, -, -, hcount⟩ := h
  refine ⟨⟨fun _ d => cycle_blockedState, fun _ => ?_⟩, ?_⟩
  · rw [bus_blockedState]; rfl
  · rw [bus_blockedState]
    exact ⟨by simp [blockedBus], by simp [blockedBus], by simp [blockedBus], hcount⟩

/-- While the cycles end one after another the bus is Blocked already: its own relation holds again at the end. -/
theorem keeps_blockedState : Keeps p q s (blockedState s) := by
  have h : Keeps False q s (blockedState s) := by
    have hbus : Keeps False q s { s with bus := blockedBus s.bus, draws := s.draws + 1 } :=
      (Keeps.busChange (v := blockedBus s.bus) fun h => h.elim).trans Keeps.draws
    refine (hbus.trans (Keeps.foldl (fun t c => ?_) _ _)).trans (Keeps.mapBays fun _ => bayKept_stopPollingBay)
    exact keeps_endCycle.trans (keeps_modHatch rfl id (fun _ => by simp) id)
  exact { h with bus := fun _ => busAgrees_blockedState }

theorem keeps_enterBlocked : Keeps p q s (enterBlocked s) :=
  keeps_blockedState.trans (keeps_setBusFlag.trans keeps_raise)

/-! ## Expiries -/

theorem keeps_closeTimerExpires : Keeps p q s (closeTimerExpires c s) := by
  unfold closeTimerExpires
  split
  next n h =>
    refine Keeps.trans (keeps_modHatch (c := c) (f := fun h => { h with demand := some .spent }) rfl id id
      fun ⟨how, hdep, hk⟩ => ⟨how, hdep, fun k hmem => ⟨(hk k hmem).1, ?_⟩⟩) keeps_requestHatchJam
    rw [← (hk k hmem).2, h]
    simp
  · exact .refl
  · exact .refl
  · exact .refl

/-- The hold record of a container changed: what the orders and the relations of the holds read of it is its premise. -/
theorem keeps_modHold {f : Hold → Hold}
    (he : s.ordersAgree → ∀ o ∈ s.orders, o.container = c → o.state = .claimed →
      (f (s.bay c).hold).emptying = o.vehicle)
    (hh : s.holdsAgree → Bay.holdFits { s.bay c with hold := f (s.bay c).hold } ∧
      ∀ v ∈ (f (s.bay c).hold).emptying,
        ((f (s.bay c).hold).orphan = false ↔ s.dock.map DockRecord.vehicle = some v)) :
    Keeps p q s (s.modHold c f) := by
  have hself : (s.modHold c f).bay c = { s.bay c with hold := f (s.bay c).hold } := by simp
  have hne (d : Box) (hd : d ≠ c) : (s.modHold c f).bay d = s.bay d := by simp [hd]
  refine Keeps.holdRecords (b := (s.modHold c f).bays) (x := s.dock) (fun d => ?_)
    (fun h => ?_) fun h => ?_
  · change ∃ h, (s.modHold c f).bay d = _
    by_cases hd : d = c
    · subst hd; exact ⟨_, hself⟩
    · exact ⟨_, hne d hd⟩
  · have hclaim := he h
    obtain ⟨⟨hnodup, hst⟩, hf, hheld, hdock⟩ := h
    refine ⟨⟨hnodup, fun o ho => ?_⟩, hf, fun o ho hc => ?_, hdock⟩
    · change ((s.modHold c f).bay o.container).record.started = true
      by_cases hd : o.container = c
      · rw [hd, hself]; exact hd ▸ hst o ho
      · rw [hne _ hd]; exact hst o ho
    · change ((s.modHold c f).bay o.container).hold.emptying = o.vehicle
      by_cases hd : o.container = c
      · rw [hd, hself]; exact hclaim o ho hd hc
      · rw [hne _ hd]; exact hheld o ho hc
  · obtain ⟨hfits, horphan⟩ := hh h
    refine ⟨fun d => ?_, fun d v hv => ?_⟩
    · change ((s.modHold c f).bay d).holdFits
      by_cases hd : d = c
      · rw [hd, hself]; exact hfits
      · rw [hne d hd]; exact h.1 d
    · change v ∈ ((s.modHold c f).bay d).hold.emptying at hv
      change ((s.modHold c f).bay d).hold.orphan = false ↔ _
      by_cases hd : d = c
      · rw [hd, hself] at hv ⊢; exact horphan v hv
      · rw [hne d hd] at hv ⊢; exact h.2 d v hv

/-- A T_q that has run out. -/
def tQSpent (h : Hold) : Hold :=
  { h with tQ := none }

theorem endQuiescence_tQSpent {cause : EndCause} {h : Hold} (hr : h.requested = true) :
    endQuiescence cause (tQSpent h) = endQuiescence cause h := by
  have hr' : (tQSpent h).requested = true := hr
  rw [endQuiescence, endQuiescence, if_pos hr, if_pos hr']
  rfl

/-- The end of a cycle at a held container stops T_q whether it has run out or not. -/
theorem endCycle_tQSpent {o : CycleOutcome} {cause : EndCause} {k : Cycle} (hk : (s.bay c).hatch.cycle = some k)
    (hr : (s.bay c).hold.requested = true) :
    endCycle c o cause (s.modHold c tQSpent) = endCycle c o cause s := by
  have hk' : ((s.modHold c tQSpent).bay c).hatch.cycle = some k := by simpa using hk
  rw [endCycle_eq hk', endCycle_eq hk]
  congr 1
  have hv := volumeAtEnd_of_agree (s := s) (t := s.modHold c tQSpent) (c := c) (o := o) (k := k)
    (by simp) (by simp) rfl rfl
  have hb : (s.modHold c tQSpent).bays = s.bays.set c { s.bay c with hold := tQSpent (s.bay c).hold } := rfl
  have hbay : (s.modHold c tQSpent).bay c = { s.bay c with hold := tQSpent (s.bay c).hold } := by simp
  rw [cycleEnded, hv, hbay, endedBay, endQuiescence_tQSpent hr, hb]
  simp [cycleEnded, endedBay, State.modBay, State.bay, State.modHold, settledCards, refund, State.modCard, recordOf,
    State.cardOf, planValue, raise]

theorem keeps_quiescenceExpires : Keeps p q s (quiescenceExpires c s) := by
  unfold quiescenceExpires
  refine Keeps.ite (fun htq => ?_) fun _ => .refl
  change Keeps p q s (forcedEnd c (s.modHold c tQSpent))
  have hspent (h : ¬ ((s.bay c).hold.requested = true ∧ (s.bay c).cycleActive = true)) :
      Keeps p q s (s.modHold c tQSpent) :=
    keeps_modHold (fun ⟨_, _, hheld, _⟩ o ho hc hcl => hc ▸ hheld o ho hcl)
      fun ⟨hfits, _⟩ => absurd ((hfits c).2.2.1 htq) h
  have hcyc : ((s.modHold c tQSpent).bay c).hatch.cycle = (s.bay c).hatch.cycle := by simp
  unfold forcedEnd
  rw [hcyc]
  cases hk : (s.bay c).hatch.cycle with
  | none => exact hspent fun h => by simp [Bay.cycleActive, hk] at h
  | some k =>
    by_cases hr : (s.bay c).hold.requested = true
    · dsimp only
      rw [endCycle_tQSpent hk hr]
      exact keeps_endCycle
    · exact (hspent fun h => hr h.1).trans keeps_endCycle

/-! ## Bus commands -/

theorem keeps_busQuiets : Keeps p q s (busQuiets s) := by
  unfold busQuiets
  split
  next h => exact keeps_leaveForQuiet fun _ => .inl h
  next h => exact keeps_leaveForQuiet fun _ => .inr h
  · exact .refl
  · exact .refl
  next h => exact Keeps.busChange fun _ ⟨hidle, _, hmodes⟩ => ⟨hidle, by simp [h], hmodes⟩

theorem keeps_busActivates : Keeps p q s (busActivates s) := by
  unfold busActivates
  split
  · exact .refl
  next h =>
    refine keeps_busPolls rfl rfl fun ⟨_, htarget, hqual, _, _⟩ => ⟨?_, ?_, by simp⟩
    · rw [← Option.not_isSome_iff_eq_none, htarget, h]; simp
    · by_contra hne; rw [hqual hne] at h; cases h
  next h =>
    refine keeps_busPolls rfl rfl fun ⟨_, htarget, hqual, hinact, _⟩ => ⟨?_, ?_, ?_⟩
    · rw [← Option.not_isSome_iff_eq_none, htarget, h]; simp
    · by_contra hne; rw [hqual hne] at h; cases h
    · dsimp only; rw [hinact, h]; simp
  next h => exact keeps_resumePolling (.inl rfl) fun ⟨_, _, _, hinact, _⟩ => by rw [hinact, h]; simp
  next h => exact Keeps.busChange fun _ ⟨hidle, _, hmodes⟩ => ⟨hidle, by simp [h], hmodes⟩

/-! ## The operations port -/

/-- A change of the port that leaves items, mask and line alone. -/
theorem keeps_portRest {v : Port} (hi : v.items = s.port.items) (hm : v.mask = s.port.mask)
    (hl : v.line = s.port.line) : Keeps p q s { s with port := v } :=
  Keeps.port (lineAgrees_congr hi hm hl)

theorem lineAgrees_deassertExpired {v : Port} (h : v.lineAgrees) : (deassertExpired v).lineAgrees := by
  unfold deassertExpired
  split
  · have hc (l : AttentionLine) : attentionCondition { v with line := l } = attentionCondition v := rfl
    constructor <;> intro hl <;> rw [hc] <;> by_cases hv : attentionCondition v = true <;> simp_all
  · exact h
  · exact h

theorem keeps_endFrame {b : Bool} : Keeps p q s { s with port := endFrame b s.port } := by
  unfold endFrame
  split
  · exact .refl
  · exact keeps_portRest rfl rfl rfl
  · exact keeps_portRest rfl rfl rfl
  · exact keeps_portRest rfl rfl rfl

theorem keeps_completeCommand : Keeps p q s { s with port := completeCommand s.port } := by
  unfold completeCommand
  split
  · exact .refl
  · exact keeps_portRest rfl rfl rfl

theorem keeps_noteTaken : Keeps p q s (noteTaken s) :=
  keeps_portRest rfl rfl rfl

theorem keeps_carryNow {carry : State → Carried} (h : Keeps p q s (carry s).state) :
    Keeps p q s (carryNow carry s) :=
  h.trans (keeps_portRest rfl rfl rfl)

theorem keeps_takeCommand {i : Instr} {carry : State → Carried} (h : ∀ t, (∃ v, t = { s with port := v }) →
    Keeps p q t (carry t).state) : Keeps p q s (takeCommand i carry s) := by
  unfold takeCommand
  dsimp only
  exact Keeps.ite (fun _ => keeps_noteTaken.trans (keeps_carryNow (h _ ⟨_, rfl⟩)))
    fun _ => keeps_noteTaken.trans (keeps_portRest rfl rfl rfl)

theorem keeps_withLength {len : Byte} {n : Nat} {carry : State → Carried} (h : Keeps p q s (carry s).state) :
    Keeps p q s (withLength len n carry s).state := by
  unfold withLength
  split
  · exact h
  · exact .refl

theorem keeps_withBox {b : Byte} {carry : Box → State → Carried} (h : ∀ c, Keeps p q s (carry c s).state) :
    Keeps p q s (withBox b carry s).state := by
  unfold withBox
  split
  · exact .refl
  · exact h _

end Sys2Proof.Machine
end

section
/-! What the commands of cards, log, clock, settings, containers and estimates keep (R2 to R9, R15 to R18, R66 to R68, R83,
R87, R92, R98, R99, R125, R126, R186). -/

namespace Sys2Proof.Machine

open Sys2Proof

variable {p q : Prop} {s t : State} {c d : Box}

/-! ## The card list -/

/-- A record of a number the list does not hold keeps it in ascending order. -/
theorem pairwise_insertCardRecord {k : CardRecord} : ∀ {l : List CardRecord},
    l.Pairwise (fun a b => a.number < b.number) → (∀ x ∈ l, x.number ≠ k.number) →
    (insertCardRecord k l).Pairwise fun a b => a.number < b.number
  | [], _, _ => List.pairwise_singleton ..
  | x :: l, h, hne => by
    obtain ⟨hx, hl⟩ := List.pairwise_cons.1 h
    have hxk : x.number ≠ k.number := hne x List.mem_cons_self
    unfold insertCardRecord
    split
    next hlt =>
      refine List.pairwise_cons.2 ⟨fun y hy => ?_, pairwise_insertCardRecord hl fun y hy => hne y (List.mem_cons_of_mem _ hy)⟩
      rcases List.mem_cons.1 ((insertCardRecord_perm l).mem_iff.1 hy) with rfl | hy
      · exact hlt
      · exact hx y hy
    next hge =>
      have hkx : k.number < x.number := by omega
      refine List.pairwise_cons.2 ⟨fun y hy => ?_, h⟩
      rcases List.mem_cons.1 hy with rfl | hy
      · exact hkx
      · exact hkx.trans (hx y hy)

/-- The number of a checked card lies in 1 to all-ones less one. -/
theorem number_of_cardChecked {card : Quad} {v : CardParams} {k : CardRecord} (h : cardChecked card v = some k) :
    k.number = card.toNat ∧ 1 ≤ k.number ∧ k.number ≤ 4294967294 := by
  unfold cardChecked at h
  split at h
  next hn =>
    have hk : k.number = card.toNat := by
      unfold cardFieldsOf at h
      split at h
      · rw [← Option.some.inj h]
      · cases h
    simp only [isCardNumber, Bool.and_eq_true, bne_iff_ne, ne_eq, BitVec.toNat_eq] at hn
    have hlt := card.isLt
    simp only [BitVec.toNat_ofNat] at hn
    omega
  next => cases h

/-- A record whose number the list does not hold joins it, with an allowance within its plan. -/
theorem keeps_addCard {k : CardRecord} (hnew : s.cardOf k.number = none) (hroom : s.cards.length < 4096)
    (hk : 1 ≤ k.number ∧ k.number ≤ 4294967294) (hr : k.remaining ≤ s.settings.plans[k.plan]) :
    Keeps p q s (addCard k s) := by
  refine Keeps.cardList fun ⟨⟨hord, hlen, hnum⟩, ⟨hst, hused⟩, hall, hset, hclk⟩ => ?_
  have hmem {x : CardRecord} (hx : x ∈ insertCardRecord k s.cards) : x = k ∨ x ∈ s.cards :=
    List.mem_cons.1 ((insertCardRecord_perm _).mem_iff.1 hx)
  refine ⟨⟨pairwise_insertCardRecord hord (cardOf_eq_none.1 hnew), ?_, fun x hx => ?_⟩, ⟨?_, ?_⟩, fun x hx => ?_,
    hset, hclk⟩
  · change (insertCardRecord k s.cards).length ≤ 4096
    rw [length_insertCardRecord]; omega
  · exact (hmem hx).elim (fun e => e ▸ hk) (hnum x)
  · change (insertCardRecord k s.cards).length ≤ _
    rw [length_insertCardRecord]
    exact le_max_right ..
  · exact max_le hused (by omega)
  · exact (hmem hx).elim (fun e => e ▸ hr) (hall x)

theorem keeps_dropCard {n : Nat} : Keeps p q s (dropCard n s) := by
  refine Keeps.cardList fun ⟨⟨hord, hlen, hnum⟩, ⟨hst, hused⟩, hall, hset, hclk⟩ => ?_
  have hmem {x : CardRecord} (hx : x ∈ s.cards.filter fun k => decide (k.number ≠ n)) : x ∈ s.cards :=
    List.mem_of_mem_filter hx
  have hle : (s.cards.filter fun k => decide (k.number ≠ n)).length ≤ s.cards.length := List.length_filter_le ..
  exact ⟨⟨hord.filter _, hle.trans hlen, fun x hx => hnum x (hmem hx)⟩, ⟨hle.trans hst, hused⟩,
    fun x hx => hall x (hmem hx), hset, hclk⟩

theorem keeps_insertCard {len : Byte} {card : Quad} {v : CardParams} :
    Keeps p q s (carryInsertCard len card v s).state := by
  refine keeps_withLength ?_
  split
  · exact .refl
  next k hk =>
    split
    · exact .refl
    next hnew =>
      split
      · exact .refl
      next hroom =>
        exact keeps_addCard (k := { k with remaining := planValue s k }) (by simpa using hnew) (by omega)
          (number_of_cardChecked hk).2 (le_refl _)

theorem keeps_updateCard {len : Byte} {card : Quad} {v : CardParams} :
    Keeps p q s (carryUpdateCard len card v s).state := by
  refine keeps_withLength ?_
  split
  · exact .refl
  · split
    · exact .refl
    · exact keeps_modCard (fun _ _ => rfl) fun _ _ _ _ => min_le_right ..

theorem keeps_removeCard {len : Byte} {card : Quad} : Keeps p q s (carryRemoveCard len card s).state := by
  refine keeps_withLength ?_
  split
  · split
    · exact .refl
    · exact keeps_dropCard
  · exact .refl

theorem keeps_readCard {len : Byte} {card : Quad} {mode : Byte} : Keeps p q s (carryReadCard len card mode s).state := by
  refine keeps_withLength ?_
  split <;> exact .refl

theorem keeps_readDenialCounters {len requests : Byte} : Keeps p q s (carryReadDenialCounters len requests s).state := by
  refine keeps_withLength ?_
  refine (Keeps.denials (v := if requests.getLsbD 0 then Vector.replicate 11 0 else s.denials) fun h i => ?_).trans
    Keeps.sighting
  split
  · simp
  · exact h i

/-! ## The deposit log -/

theorem logInSequence_drop {n : Nat} (h : s.logInSequence) : State.logInSequence { s with log := s.log.drop n } := by
  obtain ⟨hn, hl⟩ := h
  refine ⟨hn, fun ⟨i, hi⟩ => ?_⟩
  change i < (s.log.drop n).length at hi
  rw [List.length_drop] at hi
  have := hl ⟨n + i, by omega⟩
  simp only [Fin.getElem_fin, List.getElem_drop, List.length_drop] at this ⊢
  rw [← this]
  congr 2
  omega

/-- A release shortens the log; it is the one event of those that keeps the others. -/
theorem keeps_releaseLog {len n : Byte} (hq : ¬ q) : Keeps p q s (carryReleaseLog len n s).state := by
  refine keeps_withLength ?_
  exact { Keeps.refl (p := p) (q := q) (s := s) with
    log := fun h => absurd h hq
    slots := fun ⟨hcycles, hroom⟩ => ⟨hcycles, by
      have hroom' : s.log.length + s.reserved ≤ 1024 := hroom
      change (s.log.drop _).length + s.reserved ≤ 1024
      rw [List.length_drop]
      omega⟩
    sequence := logInSequence_drop }

/-! ## Clock and settings -/

theorem keeps_rollover : Keeps p q s (rollover s) :=
  keeps_mapCards (fun _ => rfl) fun _ _ _ => le_refl _

theorem inRange_nextMinute {k : Clock} (h : k.inRange) : (nextMinute k).inRange := by
  obtain ⟨-, hm, hw⟩ := h
  unfold nextMinute
  split
  next hlt => exact ⟨(by decide : 0 < 1966080), hlt, hw⟩
  next => exact ⟨(by decide : 0 < 1966080), Nat.zero_le _, Nat.le_of_lt_succ (Nat.mod_lt _ (by decide))⟩

theorem keeps_minuteTicks : Keeps p q s (minuteTicks s) := by
  unfold minuteTicks
  dsimp only
  have hclock : Keeps p q s { s with clock := nextMinute s.clock } := Keeps.clock inRange_nextMinute
  refine hclock.trans ?_
  generalize { s with clock := nextMinute s.clock } = u
  have hperiod : Keeps p q u (if isPeriodTick u then periodTick u else u) :=
    Keeps.ite (fun _ => keeps_periodTick) fun _ => .refl
  exact Keeps.ite (fun _ => hperiod.trans keeps_rollover) fun _ => hperiod

theorem keeps_setClock {len : Byte} {minute week : Half} : Keeps p q s (carrySetClock len minute week s).state := by
  refine keeps_withLength ?_
  split
  · exact .refl
  next h =>
    refine Keeps.clock fun _ => ⟨(by decide : 0 < 1966080), ?_, ?_⟩
    · change minute.toNat ≤ 10079; omega
    · change week.toNat ≤ 65535; have := week.isLt; omega

theorem clampTo_bounds {lo hi v : Nat} (h : lo ≤ hi) : lo ≤ clampTo lo hi v ∧ clampTo lo hi v ≤ hi :=
  ⟨le_max_left .., max_le h (min_le_left ..)⟩

/-- Accepted settings lie in their ranges once they are clamped. -/
theorem inRange_clampSettings {v : Settings} (h : settingsAccepted v = true) : (clampSettings v).inRange := by
  simp only [settingsAccepted, Bool.and_eq_true, decide_eq_true_eq, List.all_eq_true] at h
  obtain ⟨hroll, hcurfew⟩ := h
  refine ⟨clampTo_bounds (by decide), hroll, fun i => hcurfew _ ?_, fun i => ?_, clampTo_bounds (by decide),
    clampTo_bounds (by decide), clampTo_bounds (by decide), clampTo_bounds (by decide), clampTo_bounds (by decide),
    clampTo_bounds (by decide), clampTo_bounds (by decide)⟩
  · exact Vector.mem_toList_iff.2 (Vector.getElem_mem i.isLt)
  · simp only [clampSettings, Fin.getElem_fin, Vector.getElem_ofFn]
    exact (clampTo_bounds (by decide)).2

theorem keeps_storeSettings {v : Settings} (hv : v.inRange) : Keeps p q s (storeSettings v s) := by
  have hnum (k : CardRecord) : (if v.plans[k.plan] < s.settings.plans[k.plan] then
      { k with remaining := min k.remaining v.plans[k.plan] } else k).number = k.number := by split <;> rfl
  refine Keeps.cardList fun ⟨⟨hord, hlen, hn⟩, ⟨hst, hused⟩, hall, _, hclk⟩ => ?_
  refine ⟨⟨pairwise_numbers_map hnum hord, ?_, fun x hx => ?_⟩, ⟨?_, hused⟩, fun x hx => ?_, hv, hclk⟩
  · change (cutToPlans _ _ s.cards).length ≤ 4096
    simpa [cutToPlans] using hlen
  · obtain ⟨k, hk, rfl⟩ := List.mem_map.1 hx
    rw [hnum]; exact hn k hk
  · change (cutToPlans _ _ s.cards).length ≤ _
    simpa [cutToPlans] using hst
  · obtain ⟨k, hk, rfl⟩ := List.mem_map.1 hx
    have := hall k hk
    dsimp only
    split
    · exact min_le_right ..
    · omega

theorem keeps_writeDistrictSettings {len : Byte} {v : DistrictParams} :
    Keeps p q s (carryWriteDistrictSettings len v s).state := by
  refine keeps_withLength ?_
  dsimp only
  split
  next h => exact keeps_storeSettings (inRange_clampSettings h)
  next => exact .refl

/-! ## Configuration -/

/-- The records of a container after a configuration is stored, but for the evaluation (R4, R5, R32). -/
def configuredBay (new : ContainerConfig) (b : Bay) : Bay :=
  let old := b.record.config
  let same := old.present = new.present ∧ old.fraction = new.fraction ∧ old.cluster = new.cluster ∧
    old.capacity = new.capacity ∧ old.depth = new.depth ∧ old.drum = new.drum ∧ old.charge = new.charge
  let geometry := ¬ (old.capacity = new.capacity ∧ old.depth = new.depth)
  let appears := old.present = false ∧ new.present = true
  let leaves := old.present = true ∧ new.present = false
  { record := { b.record with
      config := new, tally := if same then b.record.tally else 0
      fault := if leaves then .none else b.record.fault }
    column :=
      if appears then { b.column with consecutive := 0, total := 0, last := none }
      else if leaves then { b.column with lost := false, answer := none }
      else b.column
    hatch :=
      if appears then { b.hatch with stray := 0, baseline := none }
      else if leaves then { b.hatch with demand := none, baseline := none }
      else b.hatch
    display := if leaves then none else b.display
    est :=
      if geometry then
        { b.est with
          mPrev := none, mLast := none, volume := 0, window := []
          fill := min (5 * new.capacity / 4) b.est.fill }
      else b.est
    hold := b.hold }

/-- The bus after a configuration is stored: the slots of a column no longer present become padding (log entry 12). -/
def configuredBus (c : Box) (old new : ContainerConfig) (b : Bus) : Bus :=
  { b with slots := if old.present = true ∧ new.present = false then
      b.slots.map (fun x => if x = some c then none else x) else b.slots }

/-- The state after a configuration is stored, but for the evaluation. -/
def configured (c : Box) (new : ContainerConfig) (s : State) : State :=
  { s with
    bays := (s.modBay c (configuredBay new)).bays
    bus := configuredBus c (s.bay c).record.config new s.bus }

theorem samePhysical_iff {a b : ContainerConfig} : samePhysical a b = true ↔
    a.present = b.present ∧ a.fraction = b.fraction ∧ a.cluster = b.cluster ∧ a.capacity = b.capacity ∧
      a.depth = b.depth ∧ a.drum = b.drum ∧ a.charge = b.charge := by
  simp [samePhysical, and_assoc]

theorem sameGeometry_iff {a b : ContainerConfig} : sameGeometry a b = true ↔
    a.capacity = b.capacity ∧ a.depth = b.depth := by
  simp [sameGeometry]

theorem sameThresholds_iff {a b : ContainerConfig} : sameThresholds a b = true ↔
    a.tOrder = b.tOrder ∧ a.tClose = b.tClose ∧ a.tReopen = b.tReopen := by
  simp [sameThresholds, and_assoc]

/-- What a changed present field does to the records of its container (R4). -/
def presenceBay (old new : ContainerConfig) (b : Bay) : Bay :=
  match old.present, new.present with
  | false, true => becomePresentBay b
  | true, false => becomeAbsentBay b
  | true, true => b
  | false, false => b

theorem applyPresence_eq {old new : ContainerConfig} : applyPresence c old new s =
    { s with bays := (s.modBay c (presenceBay old new)).bays, bus := configuredBus c old new s.bus } := by
  have hstay (h : ¬ (old.present = true ∧ new.present = false)) : configuredBus c old new s.bus = s.bus := by
    rw [configuredBus, if_neg h]
  have hleave (h : old.present = true ∧ new.present = false) :
      configuredBus c old new s.bus = { s.bus with slots := padSlots c s.bus.slots } := by
    rw [configuredBus, if_pos h]
    rfl
  have hbays (g : Bay → Bay) (h : presenceBay old new (s.bay c) = g (s.bay c)) :
      (s.modBay c (presenceBay old new)).bays = (s.modBay c g).bays := by rw [modBay_congr h]
  unfold applyPresence
  cases ho : old.present <;> cases hn : new.present
  · rw [hstay (by simp [ho]), hbays id (by simp only [presenceBay, ho, hn, id]), modBay_id (f := id) rfl]
  · rw [hstay (by simp [ho]), hbays becomePresentBay (by simp only [presenceBay, ho, hn])]
    rfl
  · rw [hleave ⟨ho, hn⟩, hbays becomeAbsentBay (by simp only [presenceBay, ho, hn])]
    rfl
  · rw [hstay (by simp [hn]), hbays id (by simp only [presenceBay, ho, hn, id]), modBay_id (f := id) rfl]

/-- The records after the changes a configuration brings one after another: configuration, present field, geometry. -/
theorem configuredBay_eq {new : ContainerConfig} {b : Bay} : configuredBay new b =
    (fun r : Bay => if sameGeometry b.record.config new then r else { r with est := regeometry new r.est })
      (presenceBay b.record.config new { b with record := { b.record with
        config := new, tally := if samePhysical b.record.config new then b.record.tally else 0 } }) := by
  unfold configuredBay presenceBay
  simp only [← samePhysical_iff, ← sameGeometry_iff]
  cases ho : b.record.config.present <;> cases hn : new.present <;>
    cases hg : sameGeometry b.record.config new <;>
    simp [becomePresentBay, becomeAbsentBay, regeometry, restartMeasuring, ceiling]

theorem storeConfig_eq {new : ContainerConfig} : storeConfig c new s =
    if sameGeometry (s.bay c).record.config new && sameThresholds (s.bay c).record.config new
      then configured c new s else evaluate c (configured c new s) := by
  have hpres : applyPresence c (s.bay c).record.config new (s.modRecord c fun r => { r with
      config := new, tally := if samePhysical (s.bay c).record.config new then r.tally else 0 }) =
      { s with
        bays := (s.modBay c fun b => presenceBay (s.bay c).record.config new { b with record := { b.record with
          config := new, tally := if samePhysical (s.bay c).record.config new then b.record.tally else 0 } }).bays
        bus := configuredBus c (s.bay c).record.config new s.bus } := by
    rw [applyPresence_eq, modRecord_eq_modBay, modBay_modBay]
    rfl
  have hall : (if sameGeometry (s.bay c).record.config new then
        applyPresence c (s.bay c).record.config new (s.modRecord c fun r => { r with
          config := new, tally := if samePhysical (s.bay c).record.config new then r.tally else 0 })
      else (applyPresence c (s.bay c).record.config new (s.modRecord c fun r => { r with
          config := new, tally := if samePhysical (s.bay c).record.config new then r.tally else 0 })).modEst c
            (regeometry new)) = configured c new s := by
    rw [hpres, configured]
    have hbay := configuredBay_eq (new := new) (b := s.bay c)
    by_cases hg : sameGeometry (s.bay c).record.config new = true
    · simp only [if_pos hg, bays_modBay] at hbay ⊢
      rw [hbay]
    · simp only [if_neg hg, bays_modBay] at hbay ⊢
      rw [hbay]
      simp [State.modEst, State.modBay, State.bay]
  unfold storeConfig
  dsimp only
  rw [hall]

end Sys2Proof.Machine
end

section
/-! What the commands of containers, holds, estimates and orders keep (R2 to R9, R125, R126, R147, R157, R180, R181, R186). -/

namespace Sys2Proof.Machine

open Sys2Proof

variable {p q : Prop} {s t : State} {c d : Box}

/-! ## Configuration -/

theorem inRange_clampConfig {k : ContainerConfig} (h : k.cluster ≤ 7) : (clampConfig k).inRange := by
  have hclose := clampTo_bounds (lo := 20) (hi := 125) (v := k.tClose) (by decide)
  have hreopen := clampTo_bounds (lo := 0) (hi := 124) (v := k.tReopen) (by decide)
  have hdoubt := clampTo_bounds (lo := 1) (hi := 15) (v := k.fDoubt) (by decide)
  have hblind := clampTo_bounds (lo := 1) (hi := 15) (v := k.fBlind) (by decide)
  refine ⟨h, clampTo_bounds (by decide), clampTo_bounds (by decide), clampTo_bounds (by decide),
    (clampTo_bounds (by decide)).2, clampTo_bounds (by decide), hclose, ?_, clampTo_bounds (by decide),
    clampTo_bounds (by decide), clampTo_bounds (by decide), (clampTo_bounds (by decide)).2, hdoubt, ?_,
    clampTo_bounds (by decide), clampTo_bounds (by decide)⟩
  · change (if clampTo 0 124 k.tReopen < clampTo 20 125 k.tClose then clampTo 0 124 k.tReopen
      else clampTo 20 125 k.tClose - 1) < clampTo 20 125 k.tClose
    split_ifs <;> omega
  · change clampTo 1 15 k.fDoubt ≤ (if clampTo 1 15 k.fBlind < clampTo 1 15 k.fDoubt then clampTo 1 15 k.fDoubt
      else clampTo 1 15 k.fBlind) ∧ (if clampTo 1 15 k.fBlind < clampTo 1 15 k.fDoubt then clampTo 1 15 k.fDoubt
      else clampTo 1 15 k.fBlind) ≤ 15
    split_ifs <;> omega

/-- A configuration in range that a Dormant container takes, or one that changes no physical field. -/
theorem bayKept_configuredBay {new : ContainerConfig} {b : Bay} (hn : new.inRange)
    (h : b.record.started = false ∨ samePhysical b.record.config new = true) : BayKept b (configuredBay new b) := by
  have hstay : b.cycleFits → b.cycleActive = true →
      ¬ (b.record.config.present = true ∧ new.present = false) ∧
      ¬ (b.record.config.present = false ∧ new.present = true) := by
    intro hf ha
    have hsame := (samePhysical_iff.1 (h.resolve_left (by simp [(hf ha).1]))).1
    constructor <;> rintro ⟨ho, hn'⟩ <;> rw [ho, hn'] at hsame <;> cases hsame
  have hactive : (configuredBay new b).cycleActive = b.cycleActive := by
    simp only [Bay.cycleActive, configuredBay]
    split
    · rfl
    · split <;> rfl
  refine ⟨⟨id, rfl, rfl, fun ⟨_, he⟩ => ⟨hn, ?_⟩, fun ⟨ht, hc, hto, hs, hb⟩ => ⟨?_, ?_⟩, fun hm => ?_,
    fun ⟨ht, hf⟩ => ⟨?_, fun ha => ?_⟩, fun hf => ?_⟩, ?_⟩
  · obtain ⟨hfill, hrest⟩ := he
    simp only [configuredBay]
    split
    · refine ⟨min_le_left .., hrest.1, hrest.2.1, Nat.zero_le _, hrest.2.2.2⟩
    next hg =>
      rw [not_not] at hg
      refine ⟨?_, hrest⟩
      rw [ceiling, ← hg.1]
      exact hfill
  · simp only [configuredBay]
    split
    · exact ht
    · exact Nat.zero_le _
  · simp only [configuredBay]
    split
    · exact ⟨Nat.zero_le _, Nat.zero_le _, Nat.zero_le _, by simp⟩
    · split
      · exact ⟨hc, hto, hs, by simp⟩
      · exact ⟨hc, hto, hs, hb⟩
  · obtain ⟨hw, hv, hp, hl, ha⟩ := hm
    simp only [configuredBay]
    split
    · exact ⟨⟨.nil, by simp, by simp⟩, by simp, by simp, by simp, ha⟩
    next hg =>
      rw [not_not] at hg
      rw [Estimate.measuresInRange, ← hg.1]
      exact ⟨hw, hv, hp, hl, ha⟩
  · by_cases ha : b.cycleActive = true
    · obtain ⟨hl, happ⟩ := hstay hf ha
      simp only [configuredBay, if_neg hl, if_neg happ]
      exact ht
    · have hnone : b.hatch.cycle = none := by simpa [Bay.cycleActive] using ha
      obtain ⟨how, hdep, -⟩ := ht
      simp only [configuredBay]
      split
      · exact ⟨how, hdep, by simp [hnone]⟩
      · split
        · exact ⟨how, hdep, by simp [hnone]⟩
        · exact ⟨how, hdep, by simp [hnone]⟩
  · rw [hactive] at ha
    refine ⟨(hf ha).1, ?_⟩
    simp only [configuredBay, if_neg (hstay hf ha).1]
    exact (hf ha).2
  · obtain ⟨hmarks, hforced, htq⟩ := hf
    exact ⟨hmarks, hforced, by rw [hactive]; exact htq⟩
  · simp only [configuredBay]
    split
    · rfl
    · split <;> rfl

theorem keeps_configured {new : ContainerConfig} (hn : new.inRange)
    (h : (s.bay c).record.started = false ∨ samePhysical (s.bay c).record.config new = true) :
    Keeps p q s (configured c new s) := by
  have hbus : Keeps p q s { s with bus := configuredBus c (s.bay c).record.config new s.bus } := by
    refine keeps_busRest rfl rfl .inl (.inl rfl) id fun _ _ he => ?_
    simp only [configuredBus, he]
    split <;> rfl
  exact hbus.trans (Keeps.modBay (f := configuredBay new) (bayKept_configuredBay hn h))

theorem opState_ne_dormant : opState (s.bay c) ≠ .dormant ↔ (s.bay c).record.started = true := by
  rw [Ne, opState_eq_dormant, Bool.not_eq_false]

theorem keeps_writeConfig {v : ContainerParams} : Keeps p q s (writeConfig v c s).state := by
  unfold writeConfig
  dsimp only
  split
  · exact .refl
  · split
    · exact .refl
    next hcluster =>
      split
      · exact .refl
      next hsame =>
        have h := keeps_configured (p := p) (q := q) (s := s) (c := c)
          (new := clampConfig (configCarried _ v)) (inRange_clampConfig (by
            change v.cluster.toNat ≤ 7; omega)) (by
            rw [opState_ne_dormant, not_and_or, Bool.not_eq_true, Bool.not_eq_false] at hsame
            exact hsame)
        change Keeps p q s (storeConfig c _ s)
        rw [storeConfig_eq]
        exact Keeps.ite (fun _ => h) fun _ => h.trans keeps_evaluate

/-! ## Start and Retire -/

theorem keeps_startBox : Keeps p q s (startBox c s).state := by
  unfold startBox
  split
  · refine Keeps.trans ?_ keeps_evaluate
    exact Keeps.modBay ⟨{ BayKept.refl (b := s.bay c) with
      started := fun _ => rfl
      hatches := fun ⟨ht, hf⟩ => ⟨ht, fun ha => ⟨rfl, (hf ha).2⟩⟩ }, rfl⟩
  · exact .refl

/-- An operation that reads no record of a container commutes with a change of these. -/
theorem finishOrder_modBay {f : Bay → Bay} {r : OrderOutcome} {cause : Option FailCause} {m : Option Nat} :
    finishOrder c r cause m (s.modBay d f) = (finishOrder c r cause m s).modBay d f := by
  have hfind : (s.modBay d f).orderOf c = s.orderOf c := rfl
  cases h : s.orderOf c with
  | none => rw [finishOrder_none (hfind.trans h), finishOrder_none h]
  | some o =>
    rw [finishOrder_some (hfind.trans h), finishOrder_some h, appendHistory_eq, appendHistory_eq]
    rfl

/-- A container is retired once it has neither hold nor cycle, and its order has left the list. -/
theorem keeps_notStarted (hcycle : (s.bay c).hatch.cycle = none) (horder : ∀ o ∈ s.orders, o.container ≠ c) :
    Keeps p q s (s.modRecord c fun r => { r with started := false }) := by
  have hself : (s.modRecord c fun r => { r with started := false }).bay c =
      { s.bay c with record := { (s.bay c).record with started := false } } := by simp
  have hne (d : Box) (hd : d ≠ c) : (s.modRecord c fun r => { r with started := false }).bay d = s.bay d := by
    simp [hd]
  have hbay (d : Box) : ∃ r, (s.modRecord c fun r => { r with started := false }).bay d =
      { s.bay d with record := r } ∧ r.config = (s.bay d).record.config ∧ r.tally = (s.bay d).record.tally := by
    by_cases hd : d = c
    · subst hd; exact ⟨_, hself, rfl, rfl⟩
    · exact ⟨_, hne d hd, rfl, rfl⟩
  have hcards : activeCards (s.modRecord c fun r => { r with started := false }) = activeCards s :=
    List.filterMap_congr fun d _ => by obtain ⟨r, e, -⟩ := hbay d; rw [e]
  exact { Keeps.refl (p := p) (q := q) (s := s) with
    records := fun hs d => by obtain ⟨r, e, hk, -⟩ := hbay d; rw [e]; dsimp only; rw [hk]; exact hs d
    counters := fun ⟨hd, hn, hl, hs⟩ => ⟨hd, hn, hl, fun d => by
      obtain ⟨r, e, -, ht⟩ := hbay d; rw [e]; dsimp only; rw [ht]; exact hs d⟩
    measures := fun hs d => by obtain ⟨r, e, hk, -⟩ := hbay d; rw [e]; dsimp only; rw [hk]; exact hs d
    slots := fun ⟨⟨hperm, hrest⟩, hroom⟩ => ⟨⟨by rw [hcards]; exact hperm, hrest⟩, hroom⟩
    hatches := fun hs d => by
      by_cases hd : d = c
      · subst hd
        rw [hself]
        exact ⟨(hs d).1, fun (ha : (s.bay d).hatch.cycle.isSome = true) => by rw [hcycle] at ha; cases ha⟩
      · rw [hne d hd]; exact hs d
    bus := fun _ ⟨⟨hidle, hslots⟩, hmodes⟩ =>
      ⟨⟨fun hp d => by obtain ⟨r, e, -⟩ := hbay d; rw [e]; exact hidle hp d, hslots⟩, hmodes⟩
    orders := fun ⟨⟨hnodup, hst⟩, hf, hheld, hdock⟩ => ⟨⟨hnodup, fun o ho => by
      rw [hne _ (horder o ho)]; exact hst o ho⟩, hf, fun o ho hc => by
      rw [hne _ (horder o ho)]; exact hheld o ho hc, hdock⟩
    holds := fun ⟨hfits, horph⟩ => ⟨fun d => by obtain ⟨r, e, -⟩ := hbay d; rw [e]; exact hfits d,
      fun d v hv => by obtain ⟨r, e, -⟩ := hbay d; rw [e] at hv ⊢; exact horph d v hv⟩ }

theorem bay_finishOrder {r : OrderOutcome} {cause : Option FailCause} {m : Option Nat} :
    (finishOrder c r cause m s).bay d = s.bay d := by
  obtain ⟨l, h, w, v, e⟩ := finishOrder_frame (s := s) (c := c) (r := r) (cause := cause) (m := m)
  rw [e]
  rfl

/-- No order of the container is left once it has finished. -/
theorem container_ne_of_mem_finishOrder {r : OrderOutcome} {cause : Option FailCause} {m : Option Nat} :
    ∀ o ∈ (finishOrder c r cause m s).orders, o.container ≠ c := by
  rw [orders_finishOrder]
  intro o ho
  simpa using (List.mem_filter.1 ho).2

theorem keeps_retireBox : Keeps p q s (retireBox c s).state := by
  unfold retireBox
  dsimp only
  split
  · exact .refl
  next h =>
    have hcycle : (s.bay c).hatch.cycle = none := by
      simp only [not_or, Bool.not_eq_true] at h
      simpa [Bay.cycleActive] using h.2.2
    change Keeps p q s (retireTaken c s)
    unfold retireTaken
    rw [modRecord_eq_modBay, finishOrder_modBay]
    refine Keeps.trans ?_ (keeps_modEst (fun _ h => h) fun ⟨_, _, hrest⟩ => ⟨⟨.nil, by simp, by simp⟩, by simp, hrest⟩)
    exact Keeps.trans (t := finishOrder c .aborted none none s) keeps_finishOrder
      (keeps_notStarted (by rw [bay_finishOrder]; exact hcycle) container_ne_of_mem_finishOrder)

/-! ## Hold commands -/

/-- A new source starts T_q during a cycle. -/
theorem holdFits_startQuiescence {b : Bay} {h : Hold} {len : Nat} (hr : h.requested = true)
    (hmarks : h.emptying = none → h.orphan = false ∧ h.reported = false)
    (htq : h.tQ.isSome = true → b.cycleActive = true) :
    Bay.holdFits { b with hold := startQuiescence b.cycleActive len h } := by
  have hactive (x : Hold) : Bay.cycleActive { b with hold := x } = b.cycleActive := rfl
  unfold startQuiescence
  split
  next ha =>
    rw [Bool.and_eq_true] at ha
    refine ⟨hmarks, fun h' => ?_, ?_⟩
    · rw [show Hold.requested { h with tQ := some len } = h.requested from rfl, hr] at h'; cases h'
    · rw [hactive, ha.1]
      exact ⟨fun _ => ⟨hr, rfl⟩, fun _ => rfl⟩
  next ha =>
    refine ⟨hmarks, fun h' => ?_, ?_⟩
    · rw [hr] at h'; cases h'
    · rw [hactive]
      refine ⟨fun h' => ⟨hr, htq h'⟩, fun ⟨_, h'⟩ => ?_⟩
      by_contra hn
      exact ha (by simpa [h'] using hn)

/-- Without a source left T_q stops and the forced mark goes; with one the record stays. -/
theorem holdFits_settleSources {b : Bay} {h : Hold} (hmarks : h.emptying = none → h.orphan = false ∧ h.reported = false)
    (htq : h.requested = true → (h.tQ.isSome = true ↔ b.cycleActive = true)) :
    Bay.holdFits { b with hold := settleSources h } := by
  have hactive (x : Hold) : Bay.cycleActive { b with hold := x } = b.cycleActive := rfl
  unfold settleSources
  split
  next hr =>
    refine ⟨hmarks, fun h' => ?_, ?_⟩
    · rw [hr] at h'; cases h'
    · rw [hactive]; exact ⟨fun h' => ⟨hr, (htq hr).1 h'⟩, fun ⟨_, h'⟩ => (htq hr).2 h'⟩
  next hr =>
    refine ⟨hmarks, fun _ => rfl, ?_⟩
    have : Hold.requested { h with tQ := none, forced := false } = h.requested := rfl
    rw [this]
    simp [hr]

@[simp] theorem startQuiescence_keeps {a : Bool} {len : Nat} {h : Hold} :
    (startQuiescence a len h).service = h.service ∧ (startQuiescence a len h).emptying = h.emptying ∧
    (startQuiescence a len h).orphan = h.orphan ∧ (startQuiescence a len h).reported = h.reported ∧
    (startQuiescence a len h).forced = h.forced := by
  unfold startQuiescence
  split <;> exact ⟨rfl, rfl, rfl, rfl, rfl⟩

@[simp] theorem settleSources_keeps {h : Hold} :
    (settleSources h).service = h.service ∧ (settleSources h).emptying = h.emptying ∧
    (settleSources h).orphan = h.orphan ∧ (settleSources h).reported = h.reported := by
  unfold settleSources
  split <;> exact ⟨rfl, rfl, rfl, rfl⟩

theorem keeps_serviceHoldOnBox : Keeps p q s (serviceHoldOnBox c s).state := by
  unfold serviceHoldOnBox
  dsimp only
  split
  · exact .refl
  · split
    · exact .refl
    · obtain ⟨-, hemp, horph, -⟩ := startQuiescence_keeps (a := (s.bay c).cycleActive) (len := s.settings.tQ)
        (h := { (s.bay c).hold with service := true })
      refine keeps_modHold (f := setService (s.bay c).cycleActive s.settings.tQ)
        (fun ⟨_, _, hheld, _⟩ o ho hc hcl => ?_) fun ⟨hfits, horphans⟩ => ⟨?_, ?_⟩
      · rw [setService, hemp]; exact hc ▸ hheld o ho hcl
      · obtain ⟨hmarks, -, htq⟩ := hfits c
        exact holdFits_startQuiescence (h := { (s.bay c).hold with service := true }) (by simp [Hold.requested]) hmarks
          fun h => (htq.1 h).2
      · rw [setService, hemp, horph]; exact horphans c

theorem keeps_serviceHoldOffBox : Keeps p q s (serviceHoldOffBox c s).state := by
  unfold serviceHoldOffBox
  split
  next hserv =>
    obtain ⟨-, hemp, horph, -⟩ := settleSources_keeps (h := { (s.bay c).hold with service := false })
    refine keeps_modHold (f := fun h => settleSources { h with service := false })
      (fun ⟨_, _, hheld, _⟩ o ho hc hcl => ?_) fun ⟨hfits, horphans⟩ => ⟨?_, ?_⟩
    · rw [hemp]; exact hc ▸ hheld o ho hcl
    · obtain ⟨hmarks, -, htq⟩ := hfits c
      refine holdFits_settleSources (h := { (s.bay c).hold with service := false }) hmarks fun _ => ?_
      rw [htq]
      simp [Hold.requested, hserv]
    · rw [hemp, horph]; exact horphans c
  next => exact .refl

/-- The emptying source cleared and, with the last source, T_q and the forced mark (R179 steps 1, 3 and 4). -/
def releasedHold (h : Hold) : Hold :=
  settleSources (clearEmptying h)

/-- The emptying source of a container goes once no order is Claimed there. -/
theorem keeps_releasedHold (hnone : ∀ o ∈ s.orders, o.container = c → o.state ≠ .claimed)
    (hemp : (s.bay c).hold.emptying ≠ none) : Keeps p q s (s.modHold c releasedHold) := by
  obtain ⟨-, he, -⟩ := settleSources_keeps (h := clearEmptying (s.bay c).hold)
  refine keeps_modHold (fun _ o ho hc hcl => absurd hcl (hnone o ho hc)) fun ⟨hfits, _⟩ => ⟨?_, ?_⟩
  · obtain ⟨-, -, htq⟩ := hfits c
    refine holdFits_settleSources (fun _ => ⟨rfl, rfl⟩) fun _ => ?_
    rw [show (clearEmptying (s.bay c).hold).tQ = (s.bay c).hold.tQ from rfl, htq]
    simp [Hold.requested, Option.isSome_iff_ne_none, hemp]
  · rw [releasedHold, he]
    simp [clearEmptying]

/-- A change of the order list and the history that leaves the records of the containers alone, and the hold record of one
released before and settled after it. -/
theorem modHold_settle_of_frame {g : State → State}
    (hg : ∀ f, g (s.modHold c f) = (g s).modHold c f) :
    (g (s.modHold c clearEmptying)).modHold c settleSources = (g s).modHold c releasedHold := by
  rw [hg]
  simp only [modHold_eq_modBay, modBay_modBay]
  rfl

theorem returnOrder_modBay {f : Bay → Bay} : returnOrder c (s.modBay d f) = (returnOrder c s).modBay d f := by
  have hfind : (s.modBay d f).orderOf c = s.orderOf c := rfl
  unfold returnOrder
  rw [hfind]
  cases s.orderOf c with
  | none => rfl
  | some o =>
    dsimp only
    split
    · exact finishOrder_modBay
    · rfl

theorem failAttempt_modBay {f : Bay → Bay} {cause : FailCause} :
    failAttempt c cause (s.modBay d f) = (failAttempt c cause s).modBay d f := by
  have hmod : (s.modBay d f).modOrder c (fun o => { o with attempts := o.attempts + 1 }) =
      (s.modOrder c fun o => { o with attempts := o.attempts + 1 }).modBay d f := rfl
  unfold failAttempt
  dsimp only
  rw [hmod]
  generalize (s.modOrder c fun o => { o with attempts := o.attempts + 1 }) = u
  have hfind : (u.modBay d f).orderOf c = u.orderOf c := rfl
  rw [hfind]
  cases u.orderOf c with
  | none => rfl
  | some o =>
    dsimp only
    split
    · exact finishOrder_modBay
    · exact returnOrder_modBay

/-- After an order returned, none is Claimed at its container. -/
theorem not_claimed_returnOrder : ∀ o ∈ (returnOrder c s).orders, o.container = c → o.state = .pending := by
  unfold returnOrder
  cases h : s.orderOf c with
  | none => exact fun o ho hc => absurd hc (orderOf_eq_none.1 h o ho)
  | some x =>
    dsimp only
    split
    · exact fun o ho hc => absurd hc (container_ne_of_mem_finishOrder o ho)
    · intro o ho hc
      obtain ⟨y, hy, rfl⟩ := List.mem_map.1 ho
      by_cases hyc : y.container = c
      · rw [if_pos hyc]
      · rw [if_neg hyc] at hc; exact absurd hc hyc

theorem not_claimed_failAttempt {cause : FailCause} :
    ∀ o ∈ (failAttempt c cause s).orders, o.container = c → o.state = .pending := by
  unfold failAttempt
  dsimp only
  generalize (s.modOrder c fun o => { o with attempts := o.attempts + 1 }) = u
  cases h : u.orderOf c with
  | none => exact fun o ho hc => absurd hc (orderOf_eq_none.1 h o ho)
  | some x =>
    dsimp only
    split
    · exact fun o ho hc => absurd hc (container_ne_of_mem_finishOrder o ho)
    · exact not_claimed_returnOrder

theorem bay_returnOrder : (returnOrder c s).bay d = s.bay d := by
  obtain ⟨l, h, w, v, e⟩ := returnOrder_frame (s := s) (c := c)
  rw [e]
  rfl

theorem bay_failAttempt {cause : FailCause} : (failAttempt c cause s).bay d = s.bay d := by
  obtain ⟨l, h, w, v, e⟩ := failAttempt_frame (s := s) (c := c) (cause := cause)
  rw [e]
  rfl

/-- The order of a container is not Claimed under an id where no claim of it is found. -/
theorem claimedNumber_eq_none {v : Nat} : claimedNumber s c v = none ↔
    ∀ o, s.orderOf c = some o → ¬ (o.state = .claimed ∧ o.vehicle = some v) := by
  unfold claimedNumber
  cases h : s.orderOf c with
  | none => simp
  | some o =>
    dsimp only
    split
    next hc => simpa using hc
    next hc => simpa using hc

/-- Where the emptying source stands under an id and no claim under it is found, the orders agreeing, no order of the
container is Claimed. -/
theorem keeps_releasedHold_of_unclaimed {v : Nat} (hemp : (s.bay c).hold.emptying = some v)
    (hnone : claimedNumber s c v = none) : Keeps p q s (s.modHold c releasedHold) := by
  by_cases hagree : s.ordersAgree
  · obtain ⟨⟨hnodup, -⟩, -, hheld, -⟩ := hagree
    refine keeps_releasedHold (fun o ho hc hcl => ?_) (by simp [hemp])
    have hveh : o.vehicle = some v := by rw [← hheld o ho hcl, hc, hemp]
    cases hf : s.orderOf c with
    | none => exact orderOf_eq_none.1 hf o ho hc
    | some x =>
      obtain ⟨hx, hxc⟩ := mem_of_orderOf hf
      obtain rfl := eq_of_mem_of_container hnodup ho hx (hc.trans hxc.symm)
      exact claimedNumber_eq_none.1 hnone o hf ⟨hcl, hveh⟩
  · have := keeps_releasedHold (p := p) (q := q) (s := { s with orders := [] }) (c := c) (by simp) (by
      change (s.bay c).hold.emptying ≠ none; simp [hemp])
    exact { this with orders := fun h => absurd h hagree, counters := this.counters }

theorem keeps_releaseClaim {v : Nat} (hemp : (s.bay c).hold.emptying = some v) :
    Keeps p q s (releaseClaim v c s) := by
  unfold releaseClaim
  dsimp only
  split
  next hsome =>
    rw [modHold_settle_of_frame (g := returnOrder c) fun f => returnOrder_modBay]
    exact keeps_returnOrder.trans (keeps_releasedHold (fun o ho hc e => by
      rw [not_claimed_returnOrder o ho hc] at e; cases e) (by rw [bay_returnOrder, hemp]; simp))
  next hnone =>
    exact modHold_settle_of_frame (s := s) (c := c) (g := id) (fun f => rfl) ▸
      keeps_releasedHold_of_unclaimed hemp (by simpa using hnone)

theorem keeps_releaseOrphanTaken {v : Nat} (hemp : (s.bay c).hold.emptying = some v) :
    Keeps p q s (releaseOrphanTaken v c s) := by
  unfold releaseOrphanTaken
  dsimp only
  split
  next hsome =>
    rw [modHold_settle_of_frame (g := failAttempt c .linkLost) fun f => failAttempt_modBay]
    exact keeps_failAttempt.trans (keeps_releasedHold (fun o ho hc e => by
      rw [not_claimed_failAttempt o ho hc] at e; cases e) (by rw [bay_failAttempt, hemp]; simp))
  next hnone =>
    exact modHold_settle_of_frame (s := s) (c := c) (g := id) (fun f => rfl) ▸
      keeps_releasedHold_of_unclaimed hemp (by simpa using hnone)

theorem keeps_releaseOrphanBox : Keeps p q s (releaseOrphanBox c s).state := by
  unfold releaseOrphanBox
  split
  · exact .refl
  next v hv =>
    split
    · exact keeps_releaseOrphanTaken hv
    · exact .refl

theorem keeps_clearFaultBox : Keeps p q s (clearFaultBox c s).state := by
  unfold clearFaultBox
  dsimp only
  split
  · exact .refl
  · exact .refl
  · split
    · exact Keeps.modBay (s := s) (c := c)
        (f := fun b => { b with record := { b.record with fault := .none } }) ⟨{ BayKept.refl (b := s.bay c) with
        hatches := fun ⟨ht, hf⟩ => ⟨ht, fun ha => ⟨(hf ha).1, rfl⟩⟩ }, rfl⟩
    · exact .refl

/-! ## Estimate and orders -/

theorem inRange_setOutright {k : ContainerConfig} {n : Nat} {e : Estimate} (hn : n ≤ ceiling k) (h : e.inRange k) :
    (setOutright n e).inRange k := by
  obtain ⟨-, -, hbulk, -⟩ := h
  exact ⟨hn, Nat.zero_le _, hbulk, Nat.zero_le _, Nat.zero_le _, Nat.zero_le _, Nat.zero_le _⟩

theorem measuresInRange_setOutright {k : ContainerConfig} {n : Nat} {e : Estimate} :
    (setOutright n e).measuresInRange k :=
  ⟨⟨.nil, by simp [setOutright, restartMeasuring], by simp [setOutright, restartMeasuring]⟩,
    by simp [setOutright, restartMeasuring], by simp [setOutright, restartMeasuring],
    by simp [setOutright, restartMeasuring], by simp [setOutright]⟩

theorem keeps_resetEstimateBox {v : Half} : Keeps p q s (resetEstimateBox v c s).state :=
  Keeps.trans (t := s.modEst c (setOutright (min v.toNat (ceiling (s.bay c).record.config))))
    (keeps_modEst (fun _ h => inRange_setOutright (min_le_right ..) h) fun _ => measuresInRange_setOutright)
    keeps_evaluate

theorem keeps_adjustEstimateBox {v : Half} : Keeps p q s (adjustEstimateBox v c s).state := by
  refine keeps_modEst (s := s) (c := c) (f := fun e => { e with adjust := clampAmount v.toInt }) (fun _ h => h)
    fun ⟨hw, hv, hp, hl, _⟩ => ⟨hw, hv, hp, hl, ?_⟩
  simp only [clampAmount]
  omega

theorem keeps_createOrder {f : Nat → Order} (hc : (f (assignedNumber s)).container = c) (hnone : s.orderOf c = none)
    (hstarted : (s.bay c).record.started = true) (hfits : (f (assignedNumber s)).fits)
    (hheld : (f (assignedNumber s)).state = .claimed → (s.bay c).hold.emptying = (f (assignedNumber s)).vehicle)
    (hoffered : (f (assignedNumber s)).state ≠ .offered) : Keeps p q s (createOrder f s) :=
  keeps_addOrder (by rw [hc]; exact orderOf_eq_none.1 hnone) (by rw [hc]; exact hstarted) hfits
    (by rw [hc]; exact hheld) hoffered

theorem keeps_postOrderBox {priority : Byte} {label : Half} {oneShot : Byte} :
    Keeps p q s (postOrderBox priority label oneShot c s).state := by
  unfold postOrderBox
  dsimp only
  split
  · exact .refl
  next hst =>
    split
    next hnone =>
      exact keeps_createOrder rfl hnone (opState_ne_dormant.1 hst)
        ⟨by simp [postedOrder], min_le_left .., Nat.zero_le _⟩ (fun e => (by cases e)) fun e => (by cases e)
    next o ho =>
      split
      · exact .refl
      · exact keeps_remarkOrder (fun _ => rfl) (fun _ => rfl) (fun _ => rfl) fun ⟨_, hfits, _⟩ x hx _ =>
          ⟨max_le (hfits x hx).2.1 (min_le_left ..), (hfits x hx).2.2⟩

theorem keeps_abortTaken {o : Order} : Keeps p q s (abortTaken o s) := by
  have h : Keeps p q s (s.modOrder o.container fun p => { p with abortRequested := true }) :=
    keeps_remarkOrder (fun _ => rfl) (fun _ => rfl) (fun _ => rfl) fun ⟨_, hfits, _⟩ x hx _ => (hfits x hx).2
  unfold abortTaken
  dsimp only
  split
  · exact h.trans keeps_finishOrder
  · exact h
  · exact h

theorem keeps_abortOrder {len : Byte} {n : Half} : Keeps p q s (carryAbortOrder len n s).state := by
  refine keeps_withLength ?_
  split
  · exact .refl
  · exact keeps_abortTaken

theorem keeps_readHistory {len n : Byte} : Keeps p q s (carryReadHistory len n s).state := by
  refine keeps_withLength ?_
  refine Keeps.history fun h => ?_
  rw [List.length_drop]
  omega

end Sys2Proof.Machine
end

section
/-! What the vehicle messages and the resets keep (R168 to R179, R199, R202). -/

namespace Sys2Proof.Machine

open Sys2Proof

variable {p q : Prop} {s t : State} {c d : Box}

/-! ## The dock -/

theorem keeps_restartDock {vid : Half} : Keeps p q s (restartDock vid s) := by
  unfold restartDock
  split
  · exact .refl
  next d hd =>
    refine Keeps.ite (fun _ => ?_) fun _ => .refl
    exact Keeps.holdRecords (b := s.bays) (x := some { d with tDock := s.settings.tDock }) (fun c => ⟨_, rfl⟩)
      (fun ⟨hfit, hf, hheld, hdock⟩ => ⟨hfit, hf, hheld, fun o ho hs => by
        have := hdock o ho hs
        rw [hd] at this
        exact this⟩)
      fun ⟨hfits, horphans⟩ => ⟨hfits, fun c v hv => by
        have := horphans c v hv
        rw [hd] at this
        exact this⟩

theorem keeps_answerMessage {vid : Half} {act : State → Handled} (h : ∀ t, Keeps p q t (act t).state) :
    Keeps p q s (answerMessage vid act s) :=
  keeps_restartDock.trans ((h _).trans Keeps.reply)

/-- The hold record of a container whose orphan mark is set or cleared with the others of a vehicle. -/
def markedHold (vehicle : Nat) (mark : Bool) (h : Hold) : Hold :=
  if h.emptying = some vehicle then { h with orphan := mark } else h

theorem bay_markOrphans {v : Nat} {mark : Bool} : (markOrphans v mark s).bay c =
    { s.bay c with hold := markedHold v mark (s.bay c).hold } := by
  rw [markOrphans, bay_mapBays, markedHold]
  split <;> rfl

/-- The dock record and the marks change independently of each other. -/
theorem markOrphans_dock {v : Nat} {mark : Bool} {x : Option DockRecord} :
    markOrphans v mark { s with dock := x } = { s with bays := (markOrphans v mark s).bays, dock := x } := by
  have hb : (markOrphans v mark { s with dock := x }).bays = (markOrphans v mark s).bays :=
    bays_ext fun c => bay_markOrphans.trans bay_markOrphans.symm
  have he : markOrphans v mark { s with dock := x } =
      { s with bays := (markOrphans v mark { s with dock := x }).bays, dock := x } := by
    simp only [markOrphans, State.mapBays]
  exact he.trans (congrArg (fun b : Vector Bay 32 => { s with bays := b, dock := x }) hb)

theorem emptying_markedHold {v : Nat} {mark : Bool} {h : Hold} : (markedHold v mark h).emptying = h.emptying := by
  unfold markedHold
  split <;> rfl

theorem holdFits_markedHold {v : Nat} {mark : Bool} {b : Bay} (h : b.holdFits) :
    Bay.holdFits { b with hold := markedHold v mark b.hold } := by
  unfold markedHold
  split
  next he =>
    obtain ⟨-, hforced, htq⟩ := h
    refine ⟨fun hn => ?_, hforced, htq⟩
    rw [show b.hold.emptying = none from hn] at he
    cases he
  next => exact h

/-- The orphan marks of a vehicle's holds and the dock record change together. -/
theorem keeps_marked {v : Nat} {mark : Bool} {x : Option DockRecord} {b : Vector Bay 32}
    (hb : ∀ c : Box, b[c] = { s.bay c with hold := markedHold v mark (s.bay c).hold })
    (ho : s.ordersAgree → ∀ o ∈ s.orders, o.state = .offered → o.vehicle = x.map DockRecord.vehicle)
    (hmark : mark = false ↔ x.map DockRecord.vehicle = some v)
    (hother : ∀ w, w ≠ v → (s.dock.map DockRecord.vehicle = some w ↔ x.map DockRecord.vehicle = some w)) :
    Keeps p q s { s with bays := b, dock := x } := by
  have hbay (c : Box) : State.bay { s with bays := b, dock := x } c =
      { s.bay c with hold := markedHold v mark (s.bay c).hold } := hb c
  refine Keeps.holdRecords (fun c => ⟨_, hb c⟩) (fun h => ?_) fun ⟨hfits, horphans⟩ => ⟨fun c => ?_, fun c w hw => ?_⟩
  · have hoffer := ho h
    obtain ⟨⟨hnodup, hst⟩, hf, hheld, -⟩ := h
    refine ⟨⟨hnodup, fun o hmem => ?_⟩, hf, fun o hmem hc => ?_, hoffer⟩
    · rw [hbay]; exact hst o hmem
    · rw [hbay]; exact emptying_markedHold.trans (hheld o hmem hc)
  · rw [hbay]; exact holdFits_markedHold (hfits c)
  · rw [hbay] at hw ⊢
    dsimp only at hw ⊢
    rw [emptying_markedHold] at hw
    have he : (s.bay c).hold.emptying = some w := hw
    unfold markedHold
    by_cases hwv : w = v
    · subst hwv; rw [if_pos he]; exact hmark
    · rw [if_neg (by rw [he]; exact fun e => hwv (Option.some.inj e)), ← hother w hwv]
      exact horphans c w hw

theorem keeps_docking {v : Nat} {mark : Bool} {x : Option DockRecord}
    (ho : s.ordersAgree → ∀ o ∈ s.orders, o.state = .offered → o.vehicle = x.map DockRecord.vehicle)
    (hmark : mark = false ↔ x.map DockRecord.vehicle = some v)
    (hother : ∀ w, w ≠ v → (s.dock.map DockRecord.vehicle = some w ↔ x.map DockRecord.vehicle = some w)) :
    Keeps p q s (markOrphans v mark { s with dock := x }) := by
  rw [markOrphans_dock]
  exact keeps_marked (fun c => bay_markOrphans) ho hmark hother

/-! ## Offers -/

theorem mem_returnOrder {o : Order} (h : o ∈ (returnOrder c s).orders) :
    o.container = c ∧ o.state = .pending ∨ o.container ≠ c ∧ o ∈ s.orders := by
  by_cases hc : o.container = c
  · exact .inl ⟨hc, not_claimed_returnOrder o h hc⟩
  · refine .inr ⟨hc, ?_⟩
    unfold returnOrder at h
    split at h
    · exact h
    · split at h
      · rw [orders_finishOrder] at h; exact List.mem_of_mem_filter h
      · obtain ⟨x, hx, rfl⟩ := List.mem_map.1 h
        by_cases hxc : x.container = c
        · rw [if_pos hxc] at hc; exact absurd hxc hc
        · rwa [if_neg hxc]

theorem mem_foldl_returnOrder {o : Order} : ∀ (l : List Box) (s : State),
    o ∈ (l.foldl (fun t c => returnOrder c t) s).orders → o.state = .pending ∨ o ∈ s.orders ∧ o.container ∉ l
  | [], _, h => .inr ⟨h, List.not_mem_nil⟩
  | c :: l, s, h => by
    rcases mem_foldl_returnOrder l (returnOrder c s) h with hp | ⟨hmem, hl⟩
    · exact .inl hp
    · rcases mem_returnOrder hmem with ⟨-, hp⟩ | ⟨hc, hs⟩
      · exact .inl hp
      · exact .inr ⟨hs, fun h => (List.mem_cons.1 h).elim hc hl⟩

/-- Once the offered orders are returned none is Offered. -/
theorem state_of_mem_returnOffered {o : Order} (h : o ∈ (returnOffered s).orders) : o.state ≠ .offered := by
  rcases mem_foldl_returnOrder _ _ h with hp | ⟨hmem, hl⟩
  · rw [hp]; decide
  · intro he
    refine hl (mem_freeOrder.2 (List.mem_map.2 ⟨o, List.mem_filter.2 ⟨hmem, ?_⟩, rfl⟩))
    rw [he]; rfl

theorem keeps_returnOffered : Keeps p q s (returnOffered s) :=
  Keeps.draws.trans (Keeps.foldl (fun _ _ => keeps_returnOrder) _ _)

theorem dock_foldl_returnOrder : ∀ (l : List Box) (s : State),
    (l.foldl (fun t c => returnOrder c t) s).dock = s.dock
  | [], _ => rfl
  | c :: l, s => by
    obtain ⟨x, h, w, v, e⟩ := returnOrder_frame (s := s) (c := c)
    rw [List.foldl_cons, dock_foldl_returnOrder l, e]

theorem dock_returnOffered : (returnOffered s).dock = s.dock :=
  dock_foldl_returnOrder _ _

/-- The orders chosen are offered to the vehicle that is docked. -/
theorem keeps_buildOffer {v : Nat} {f : BitVec 8} (hv : s.dock.map DockRecord.vehicle = some v) :
    Keeps p q s (buildOffer v f s) := by
  refine keeps_mapOrders (fun o => ?_) fun ⟨_, hfits, hheld, hdock⟩ o ho => ?_
  · split <;> rfl
  · split
    · exact ⟨⟨by simp, (hfits o ho).2⟩, fun e => (by cases e), fun _ => hv.symm⟩
    · exact ⟨hfits o ho, hheld o ho, hdock o ho⟩

/-! ## Messages -/

theorem keeps_endDock {v : Nat} (hv : s.dock.map DockRecord.vehicle = some v) : Keeps p q s (endDock v s) := by
  have hdock : (returnOffered s).dock.map DockRecord.vehicle = some v := by rw [dock_returnOffered]; exact hv
  have h := keeps_docking (p := p) (q := q) (s := returnOffered s) (v := v) (mark := true) (x := none)
    (fun _ o ho hs => absurd hs (state_of_mem_returnOffered ho)) (by simp)
    fun w hw => by rw [hdock]; simpa using Ne.symm hw
  rw [markOrphans_dock] at h
  have he : { markOrphans v true (returnOffered s) with dock := none } =
      { returnOffered s with bays := (markOrphans v true (returnOffered s)).bays, dock := none } := by
    simp only [markOrphans, State.mapBays]
  unfold endDock
  rw [he]
  exact keeps_returnOffered.trans (h.trans keeps_raise)

theorem keeps_handleDock {fits : Bool} {vid : Half} {f : Byte} : Keeps p q s (handleDock fits vid f s).state := by
  unfold handleDock
  split
  · exact .refl
  · split
    · exact .refl
    next hnone =>
      have hdock : s.dock = none := by simpa using hnone
      have h := keeps_docking (p := p) (q := q) (s := raise .dock s) (v := vid.toNat) (mark := false)
        (x := some ⟨vid.toNat, f, s.settings.tDock⟩) (fun ⟨_, hf, _, hd⟩ o ho hs => by
          have := (hf o ho).1
          rw [hd o ho hs, dock_raise, hdock, hs] at this
          simp at this) (by simp) fun w hw => by rw [dock_raise, hdock]; simpa using Ne.symm hw
      have hbuild : Keeps p q _ (buildOffer vid.toNat f (markOrphans vid.toNat false
          { raise .dock s with dock := some ⟨vid.toNat, f, s.settings.tDock⟩ })) :=
        keeps_buildOffer (by rw [markOrphans_dock]; rfl)
      exact keeps_raise.trans (h.trans hbuild)

/-- The vehicle found docked is the one of the dock record. -/
theorem vehicle_of_dockedAs {vid : Half} {d : DockRecord} (h : dockedAs vid s = some d) :
    s.dock = some d ∧ d.vehicle = vid.toNat := by
  have := Option.filter_eq_some_iff.1 h
  exact ⟨this.1, by simpa using this.2⟩

theorem keeps_handleRefresh {fits : Bool} {vid : Half} : Keeps p q s (handleRefresh fits vid s).state := by
  unfold handleRefresh
  split
  · exact .refl
  · split
    · exact .refl
    next d hd =>
      refine Keeps.trans keeps_returnOffered (keeps_buildOffer ?_)
      rw [dock_returnOffered, (vehicle_of_dockedAs hd).1]
      rfl

theorem keeps_handleStatus {fits : Bool} {vid : Half} : Keeps p q s (handleStatus fits vid s).state := by
  unfold handleStatus
  split <;> exact .refl

theorem keeps_handleUndock {fits : Bool} {vid : Half} : Keeps p q s (handleUndock fits vid s).state := by
  unfold handleUndock
  split
  · exact .refl
  · split
    · exact .refl
    next d hd => exact keeps_endDock (by rw [(vehicle_of_dockedAs hd).1]; rfl)

theorem bindOrder_modBay {f : Bay → Bay} {v : Nat} : bindOrder c v (s.modBay d f) = (bindOrder c v s).modBay d f := by
  have hfind : (s.modBay d f).orderOf c = s.orderOf c := rfl
  unfold bindOrder
  rw [hfind]
  cases s.orderOf c <;> rfl

/-- A claim of the docked vehicle on a started container without an emptying source. -/
theorem keeps_takeClaim {v : Nat} (hstarted : (s.bay c).record.started = true)
    (hemp : (s.bay c).hold.emptying = none) (hv : s.dock.map DockRecord.vehicle = some v) :
    Keeps p q s (takeClaim v c s) := by
  obtain ⟨-, he, horph, -⟩ := startQuiescence_keeps (a := (s.bay c).cycleActive) (len := s.settings.tQ)
    (h := { (s.bay c).hold with
      emptying := some v, orphan := false, reported := false
      forced := (s.bay c).hold.service && (s.bay c).hold.forced })
  have hhold : Keeps p q s (s.modHold c (claimHold v (s.bay c).cycleActive s.settings.tQ)) := by
    refine keeps_modHold (fun ⟨_, hf, hheld, _⟩ o ho hc hcl => ?_) fun ⟨hfits, _⟩ => ⟨?_, ?_⟩
    · have := (hf o ho).1
      rw [← hheld o ho hcl, hc, hemp, hcl] at this
      simp at this
    · obtain ⟨-, -, htq⟩ := hfits c
      exact holdFits_startQuiescence (by simp [Hold.requested]) (fun h => by cases h) fun h => (htq.1 h).2
    · rw [claimHold, he, horph]
      intro w hw
      obtain rfl := Option.some.inj hw
      simpa using hv
  rw [takeClaim, modHold_eq_modBay, ← bindOrder_modBay, ← modHold_eq_modBay]
  refine hhold.trans ?_
  generalize hu : s.modHold c (claimHold v (s.bay c).cycleActive s.settings.tQ) = u
  have hbay : u.bay c = { s.bay c with hold := claimHold v (s.bay c).cycleActive s.settings.tQ (s.bay c).hold } := by
    rw [← hu]; simp
  have hclaimed : (u.bay c).hold.emptying = some v := by rw [hbay, claimHold]; exact he
  unfold bindOrder
  split
  · exact keeps_modOrder (fun _ => rfl) fun ⟨_, hf, _, _⟩ o ho _ =>
      ⟨⟨by simp, (hf o ho).2⟩, fun _ => hclaimed, fun e => (by cases e)⟩
  next hnone =>
    refine keeps_createOrder (f := adHocOrder c v) rfl hnone (by change (u.bay c).record.started = true; rw [hbay]; exact hstarted)
      ⟨by simp [adHocOrder], by simp [adHocOrder], by simp [adHocOrder]⟩ (fun _ => hclaimed) fun e => (by cases e)

theorem keeps_handleClaim {fits : Bool} {vid : Half} {b : Byte} : Keeps p q s (handleClaim fits vid b s).state := by
  unfold handleClaim
  split
  · exact .refl
  next c _ =>
    split
    · exact .refl
    next d hd =>
      split
      · exact .refl
      next hstarted =>
        split
        · exact .refl
        · split
          · split <;> exact .refl
          next hemp =>
            exact keeps_takeClaim (by simpa using hstarted) hemp (by rw [(vehicle_of_dockedAs hd).1]; rfl)

theorem keeps_partialResult : Keeps p q s (partialResult c s) := by
  refine Keeps.trans (keeps_modEst (s := s) (c := c) (f := halve) (fun _ ⟨hfill, hrem, hbulk, _, hfails, _, hsilent⟩ => ?_)
    fun ⟨_, _, _, _, hadj⟩ => ?_) keeps_evaluate
  · refine ⟨?_, hrem, hbulk, Nat.zero_le _, hfails, Nat.zero_le _, hsilent⟩
    have : (halve (s.bay c).est).fill = (s.bay c).est.fill / 2 := rfl
    omega
  · exact ⟨⟨.nil, by simp [halve, restartMeasuring], by simp [halve, restartMeasuring]⟩,
      by simp [halve, restartMeasuring], by simp [halve, restartMeasuring], by simp [halve, restartMeasuring], hadj⟩

theorem residual_le_ceiling {k : ContainerConfig} (h : k.inRange) : k.residual ≤ ceiling k := by
  obtain ⟨-, hcap, -, -, -, -, -, -, -, -, -, hres, -⟩ := h
  unfold ceiling
  omega

theorem keeps_emptiedResult : Keeps p q s (emptiedResult c s) :=
  Keeps.trans (t := s.modEst c (setOutright (s.bay c).record.config.residual))
    (keeps_modEst (fun hk h => inRange_setOutright (residual_le_ceiling hk) h) fun _ => measuresInRange_setOutright)
    keeps_evaluate

/-- The reported mark is set while a claim stands. -/
theorem keeps_reported {v : Nat} (hemp : (s.bay c).hold.emptying = some v) :
    Keeps p q s (s.modHold c fun h => { h with reported := true }) := by
  refine keeps_modHold (fun ⟨_, _, hheld, _⟩ o ho hc hcl => hc ▸ hheld o ho hcl) fun ⟨hfits, horphans⟩ =>
    ⟨?_, horphans c⟩
  obtain ⟨-, hforced, htq⟩ := hfits c
  refine ⟨fun hn => ?_, hforced, htq⟩
  rw [show (s.bay c).hold.emptying = none from hn] at hemp
  cases hemp

theorem keeps_handleLift {fits : Bool} {vid : Half} {b : Byte} {x : LiftCode} {m : Half} :
    Keeps p q s (handleLift fits vid b x m s).state := by
  unfold handleLift
  split
  · exact .refl
  next c _ =>
    split
    · exact .refl
    · split
      · exact .refl
      next d _ =>
        split
        · exact .refl
        next hacc =>
          have hemp : (s.bay c).hold.emptying = some d.vehicle := by
            simp only [reportAccepted, Bool.not_eq_true, Bool.not_eq_false', Bool.and_eq_true, beq_iff_eq] at hacc
            exact hacc.1.1
          dsimp only
          refine Keeps.trans (keeps_reported hemp) ?_
          cases x with
          | emptied => exact keeps_finishOrder.trans keeps_emptiedResult
          | partLifted => exact keeps_finishOrder.trans keeps_partialResult
          | blocked => exact keeps_failAttempt
          | other => exact .refl

theorem keeps_handleRelease {fits : Bool} {vid : Half} {b : Byte} : Keeps p q s (handleRelease fits vid b s).state := by
  unfold handleRelease
  split
  · exact .refl
  · split
    · exact .refl
    · split
      next hemp => exact keeps_releaseClaim hemp
      next => exact .refl

theorem keeps_dockExpiry : Keeps p q s (match s.dock with
    | none => s
    | some d => endDock d.vehicle s) := by
  split
  · exact .refl
  next d hd => exact keeps_endDock (by rw [hd]; rfl)

/-! ## Service reset -/

theorem cycle_endCut : ∀ (u : State) (c d : Box), ((endCut u c).bay d).hatch.cycle =
    if d = c then none else (u.bay d).hatch.cycle :=
  fun _ _ _ => cycle_endCycle_eq

theorem keeps_resetCycles : Keeps p q s (resetCycles s) := by
  have hnone := cycle_foldl cycle_endCut (freeOrder s.draws (activeBoxes s)) { s with draws := s.draws + 1 }
    fun e he => cycle_of_not_mem_freeOrder (s := s) he
  have hfold : Keeps p q s
      ((freeOrder s.draws (activeBoxes s)).foldl endCut { s with draws := s.draws + 1 }) :=
    Keeps.draws.trans (Keeps.foldl (fun _ _ => keeps_endCycle) _ _)
  unfold resetCycles
  dsimp only
  exact hfold.trans (Keeps.mapBays fun c => BayKept.hatch rfl id id fun ⟨how, hdep, _⟩ => ⟨how, hdep, by simp [hnone c]⟩)

theorem mem_foldl_endReset {o : Order} : ∀ (l : List Box) (s : State),
    o ∈ (l.foldl endReset s).orders → o ∈ s.orders ∧ o.container ∉ l
  | [], _, h => ⟨h, List.not_mem_nil⟩
  | c :: l, s, h => by
    obtain ⟨hmem, hl⟩ := mem_foldl_endReset l _ h
    rw [endReset, orders_finishOrder] at hmem
    obtain ⟨hs, hc⟩ := List.mem_filter.1 hmem
    exact ⟨hs, fun h => (List.mem_cons.1 h).elim (by simpa using hc) hl⟩

/-- Every order has left the list after its part of a service reset. -/
theorem orders_resetOrders : (resetOrders s).orders = [] := by
  rw [List.eq_nil_iff_forall_not_mem]
  intro o ho
  obtain ⟨hs, hl⟩ := mem_foldl_endReset _ _ ho
  exact hl (List.mem_map.2 ⟨o, mem_ranked.2 hs, rfl⟩)

/-- Hold records and dock cleared once no order is left. -/
theorem keeps_clearHolds {b : Vector Bay 32} (hb : ∀ c : Box, b[c] = { s.bay c with hold := {} })
    (h : s.orders = []) : Keeps p q s { s with bays := b, dock := none } := by
  have hbay (c : Box) : State.bay { s with bays := b, dock := none } c = { s.bay c with hold := {} } := hb c
  refine Keeps.holdRecords (fun c => ⟨_, hb c⟩) (fun _ => ?_) fun _ => ⟨fun c => ?_, fun c v hv => ?_⟩
  · simp [State.ordersAgree, State.ordersFit, State.claimsHeld, State.offersDocked, h]
  · rw [hbay]
    simp [Bay.holdFits, Hold.requested]
  · rw [hbay] at hv
    cases hv

theorem resetHolds_eq : resetHolds s =
    { s with bays := (s.mapBays fun b => { b with hold := {} }).bays, dock := none } := by
  simp only [resetHolds, State.mapBays]

theorem keeps_resetHolds (h : s.orders = []) : Keeps p q s (resetHolds s) := by
  rw [resetHolds_eq]
  exact keeps_clearHolds (fun c => bay_mapBays) h

theorem keeps_resetBus : Keeps p q s (resetBus s) := by
  unfold resetBus
  dsimp only
  have h : Keeps p q s (s.mapBays fun b => { b with column := resetColumn b.column }) :=
    Keeps.mapBays fun c => BayKept.column (x := (s.bay c).display) (fun _ => Nat.zero_le _) fun _ => Nat.zero_le _
  refine h.trans ?_
  generalize (s.mapBays fun b => { b with column := resetColumn b.column }) = u
  exact Keeps.trans (keeps_busPolls (v := { u.bus with
      state := .active, target := none, firstWake := false, qualifier := .off, tInact := none, stuck := 0 }) rfl rfl
    fun _ => ⟨rfl, rfl, by simp⟩) (keeps_startCycle fun _ e => (by cases e))

theorem keeps_resetWindows : Keeps p q s (resetWindows s) :=
  Keeps.mapBays fun _ => BayKept.est (fun _ h => h) fun ⟨_, _, hrest⟩ => ⟨⟨.nil, by simp, by simp⟩, by simp, hrest⟩

theorem keeps_resetDisplays : Keeps p q s (resetDisplays s) :=
  Keeps.mapBays fun c => BayKept.column (k := (s.bay c).column) id id

theorem keeps_resetOrders : Keeps p q s (resetOrders s) :=
  Keeps.foldl (fun _ _ => keeps_finishOrder) _ _

theorem keeps_serviceResets : Keeps p q s (serviceResets s) :=
  keeps_resetCycles.trans (keeps_resetOrders.trans ((keeps_resetHolds orders_resetOrders).trans
    (keeps_resetBus.trans (keeps_resetWindows.trans keeps_resetDisplays))))

end Sys2Proof.Machine
end

section
/-! Every event keeps every relation: the invariants of section Invariants of every step, each from what the events keep
(O2, O51 to O60). -/

namespace Sys2Proof.Machine

open Sys2Proof

variable {p q : Prop} {s t : State} {c d : Box}

/-! ## The commands -/

theorem keeps_clearItems {requests : Half} : Keeps p q s (clearItems requests s) :=
  Keeps.port fun _ => lineAgrees_followLine

theorem keeps_replaceMask {enables : Half} : Keeps p q s (replaceMask enables s) :=
  Keeps.port fun _ => lineAgrees_followLine

/-- A command carried out keeps the relations; only a release does not keep the log. -/
theorem keeps_carryOut {i : Instr} (hq : q → ∀ len n, i ≠ .releaseLog len n) : Keeps p q s (carryOut i s).state := by
  cases i with
  | writeDistrictSettings len v => exact keeps_writeDistrictSettings
  | writeContainerConfig len b v => exact keeps_withLength (keeps_withBox fun _ => keeps_writeConfig)
  | start len b => exact keeps_withLength (keeps_withBox fun _ => keeps_startBox)
  | retire len b => exact keeps_withLength (keeps_withBox fun _ => keeps_retireBox)
  | setClock len minute week => exact keeps_setClock
  | triggerRollover len => exact keeps_withLength keeps_rollover
  | insertCard len card v => exact keeps_insertCard
  | updateCard len card v => exact keeps_updateCard
  | removeCard len card => exact keeps_removeCard
  | readCard len card mode => exact keeps_readCard
  | releaseLog len n => exact keeps_releaseLog fun h => hq h len n rfl
  | resetEstimate len b v => exact keeps_withLength (keeps_withBox fun _ => keeps_resetEstimateBox)
  | adjustEstimate len b v => exact keeps_withLength (keeps_withBox fun _ => keeps_adjustEstimateBox)
  | postOrder len b priority label oneShot => exact keeps_withLength (keeps_withBox fun _ => keeps_postOrderBox)
  | abortOrder len n => exact keeps_abortOrder
  | readHistory len n => exact keeps_readHistory
  | serviceHoldOn len b => exact keeps_withLength (keeps_withBox fun _ => keeps_serviceHoldOnBox)
  | serviceHoldOff len b => exact keeps_withLength (keeps_withBox fun _ => keeps_serviceHoldOffBox)
  | releaseOrphan len b => exact keeps_withLength (keeps_withBox fun _ => keeps_releaseOrphanBox)
  | clearFault len b => exact keeps_withLength (keeps_withBox fun _ => keeps_clearFaultBox)
  | busQuiet len => exact keeps_withLength keeps_busQuiets
  | busActive len => exact keeps_withLength keeps_busActivates
  | clearBusFlags len requests => 
    exact keeps_withLength (keeps_busRest rfl rfl .inl (.inl rfl) id fun _ _ h => h)
  | clearAttention len requests => exact keeps_withLength keeps_clearItems
  | maskAttention len enables => exact keeps_withLength keeps_replaceMask
  | readDenialCounters len requests => exact keeps_readDenialCounters
  | serviceReset len =>
    exact keeps_withLength (carry := fun s => answer .ok (.resetCounts (activeBoxes s).length s.orders.length)
      (serviceResets s)) keeps_serviceResets
  | unknownCommand len code => exact .refl
  | noOp len => exact keeps_withLength .refl
  | readDistrictSettings len => exact keeps_withLength .refl
  | readContainerConfig len b => exact keeps_withLength (keeps_withBox fun _ => .refl)
  | readClock len => exact keeps_withLength .refl
  | peekLog len n => exact keeps_withLength .refl
  | readContainerStatus len b => exact keeps_withLength (keeps_withBox fun _ => .refl)
  | readOrders len first => exact keeps_withLength .refl
  | readBusFlags len => exact keeps_withLength .refl
  | readAttention len => exact keeps_withLength .refl
  | _ => exact .refl

/-- A waiting release takes a record out of the log as one that did not wait does. -/
theorem keeps_startQueued (hq : q → ∀ w ∈ s.port.waiting.head?, ∀ len n, w.command ≠ .releaseLog len n) :
    Keeps p q s (startQueued s) := by
  obtain ⟨w, rest, -, hw, h⟩ | ⟨-, h⟩ := startQueued_cases (s := s)
  · rw [h]
    refine Keeps.trans (keeps_portRest (v := { s.port with waiting := rest }) rfl rfl rfl) (keeps_carryNow ?_)
    rw [state_carryWaiting]
    exact keeps_carryOut fun hp => hq hp w (by rw [hw]; rfl)
  · rw [h]; exact .refl

/-! ## Every event -/

/-- An event that is no reset of the part answers a state that keeps the relations, and the log unless it releases
records. -/
theorem keeps_exec {i : Instr} (hi : i ≠ .powerOnReset)
    (hq : q → (∀ len n, i ≠ .releaseLog len n) ∧ (i = .queuedCommandStart →
      ∀ w ∈ s.port.waiting.head?, ∀ len n, w.command ≠ .releaseLog len n)) :
    ∃ t, exec i s = .next t ∧ Keeps p q s t := by
  by_cases hport : isPortCommand i = true
  · exact ⟨_, exec_of_isPortCommand hport, keeps_takeCommand fun _ _ => keeps_carryOut fun h => (hq h).1⟩
  · cases i with
    | powerOnReset => exact absurd rfl hi
    | selectFall => exact ⟨_, rfl, keeps_portRest rfl rfl rfl⟩
    | frameEnd b => exact ⟨_, rfl, keeps_endFrame⟩
    | queuedCommandStart => exact ⟨_, rfl, keeps_startQueued fun h => (hq h).2 rfl⟩
    | commandCompletion => exact ⟨_, rfl, keeps_completeCommand⟩
    | minuteTick => exact ⟨_, rfl, keeps_minuteTicks⟩
    | slotEnd rx => exact ⟨_, rfl, keeps_slotEnds⟩
    | lineEdge level n b => exact ⟨_, rfl, keeps_edge⟩
    | wakeTfElapsed => exact ⟨_, rfl, keeps_tfElapses⟩
    | wakeWindowExpiry => exact ⟨_, rfl, keeps_windowExpires⟩
    | stuckLineDetected => exact ⟨_, rfl, Keeps.ite (fun _ => keeps_enterBlocked) fun _ => .refl⟩
    | blockedRecovery => exact ⟨_, rfl, keeps_recovers⟩
    | tInactExpiry => exact ⟨_, rfl, Keeps.ite (fun h => keeps_leaveForQuiet fun _ => .inr h.1) fun _ => .refl⟩
    | denialDisplayExpiry c =>
      exact ⟨_, rfl, Keeps.modBay (BayKept.column (k := (s.bay c).column) id id)⟩
    | tOwExpiry c => exact ⟨_, rfl, Keeps.ite (fun _ => keeps_endCycle) fun _ => .refl⟩
    | tDepExpiry c => exact ⟨_, rfl, Keeps.ite (fun _ => keeps_endCycle) fun _ => .refl⟩
    | tClExpiry c => exact ⟨_, rfl, keeps_closeTimerExpires⟩
    | tQExpiry c => exact ⟨_, rfl, keeps_quiescenceExpires⟩
    | tDockExpiry => exact ⟨_, rfl, keeps_dockExpiry⟩
    | vehicleFrameDiscarded => exact ⟨_, rfl, .refl⟩
    | unknownMessage vid => exact ⟨_, rfl, keeps_answerMessage fun _ => .refl⟩
    | dock fits vid f => exact ⟨_, rfl, keeps_answerMessage fun _ => keeps_handleDock⟩
    | refresh fits vid => exact ⟨_, rfl, keeps_answerMessage fun _ => keeps_handleRefresh⟩
    | status fits vid => exact ⟨_, rfl, keeps_answerMessage fun _ => keeps_handleStatus⟩
    | undock fits vid => exact ⟨_, rfl, keeps_answerMessage fun _ => keeps_handleUndock⟩
    | claim fits vid b => exact ⟨_, rfl, keeps_answerMessage fun _ => keeps_handleClaim⟩
    | liftReport fits vid b x m => exact ⟨_, rfl, keeps_answerMessage fun _ => keeps_handleLift⟩
    | release fits vid b => exact ⟨_, rfl, keeps_answerMessage fun _ => keeps_handleRelease⟩
    | deassertTimerExpiry => exact ⟨_, rfl, Keeps.port lineAgrees_deassertExpired⟩
    | _ => exact absurd rfl hport

/-- A step keeps a relation that every event keeps, that holds at a power-on reset, and that does not read the queue. -/
theorem relation_of_step {P : State → Prop} (hkeeps : ∀ s t, Keeps True False s t → P s → P t)
    (hreset : P State.reset) (hqueue : ∀ s l, P s → P { s with pending := l }) (hs : P s) (h : step s = .next t) :
    P t := by
  unfold step at h
  split at h
  · cases h; exact hs
  next i rest _ =>
    by_cases hi : i = .powerOnReset
    · subst hi
      cases h
      exact hqueue _ _ hreset
    · obtain ⟨u, hu, hk⟩ := keeps_exec (p := True) (q := False) (s := { s with pending := rest }) hi False.elim
      rw [hu] at h
      cases h
      exact hkeeps _ _ hk (hqueue _ _ hs)

/-! ## The reset state -/

/-- Settles O60. -/
theorem invariantsHoldAtReset : Obligations.InvariantsHoldAtReset := by
  have hbay (c : Box) : State.reset.bay c = {} := by simp [State.reset, State.bay]
  refine ⟨fun c => ?_, ⟨by decide, by decide, by decide, fun c => ?_⟩, fun c => ?_, by decide, by decide, by decide,
    by decide, by decide, by decide, by decide, by decide, fun c => ?_, ⟨fun _ c => ?_, by decide⟩, by decide,
    by decide, ⟨fun c => ?_, fun c => ?_⟩, by decide⟩
  · rw [hbay]; decide
  · rw [hbay]; decide
  · rw [hbay]; decide
  · rw [hbay]; decide
  · rw [hbay]
  · rw [hbay]; decide
  · rw [hbay]; decide

/-! ## The invariants -/

/-- Settles O51, from what every event keeps and the values at reset. -/
theorem recordsStayInRange : Obligations.RecordsStayInRange :=
  ⟨fun _ _ hs => relation_of_step (fun _ _ h => h.records) invariantsHoldAtReset.1 (fun _ _ h => h) hs,
    fun _ _ hs => relation_of_step (fun _ _ h => h.counters) invariantsHoldAtReset.2.1 (fun _ _ h => h) hs⟩

/-- Settles O52. -/
theorem measurementsStayInRange : Obligations.MeasurementsStayInRange := fun _ _ hs => by
  obtain ⟨-, -, hreset, -⟩ := invariantsHoldAtReset
  exact relation_of_step (fun _ _ h => h.measures) hreset (fun _ _ h => h) hs

/-- Settles O53. -/
theorem cardsAndSettingsStayInRange : Obligations.CardsAndSettingsStayInRange := fun _ _ hs => by
  obtain ⟨-, -, -, hord, hst, hall, hset, hclk, -⟩ := invariantsHoldAtReset
  exact relation_of_step (P := State.cardsAgree) (fun _ _ h => h.cards) ⟨hord, hst, hall, hset, hclk⟩
    (fun _ _ h => h) hs

/-- Settles O54. -/
theorem openCardsMatchCycles : Obligations.OpenCardsMatchCycles := fun _ _ hs => by
  obtain ⟨-, -, -, -, -, -, -, -, hcycles, hroom, -⟩ := invariantsHoldAtReset
  exact relation_of_step (P := State.slotsAgree) (fun _ _ h => h.slots) ⟨hcycles, hroom⟩ (fun _ _ h => h) hs

/-- Settles O55. -/
theorem logStaysInSequence : Obligations.LogStaysInSequence := by
  obtain ⟨-, -, -, -, -, -, -, -, -, -, hseq, -⟩ := invariantsHoldAtReset
  refine ⟨fun _ _ hs => relation_of_step (fun _ _ h => h.sequence) hseq (fun _ _ h => h) hs,
    fun i s t hi hrelease hqueued h => ?_⟩
  obtain ⟨u, hu, hk⟩ := keeps_exec (p := True) (q := True) (s := s) hi fun _ => ⟨hrelease, hqueued⟩
  rw [hu] at h
  cases h
  exact hk.log trivial

/-- Settles O56. -/
theorem cyclesMatchTimersAndState : Obligations.CyclesMatchTimersAndState := fun _ _ hs => by
  obtain ⟨-, -, -, -, -, -, -, -, -, -, -, hreset, -⟩ := invariantsHoldAtReset
  exact relation_of_step (fun _ _ h => h.hatches) hreset (fun _ _ h => h) hs

/-- Settles O57. -/
theorem busModesAgree : Obligations.BusModesAgree := fun _ _ hs => by
  obtain ⟨-, -, -, -, -, -, -, -, -, -, -, -, hidle, hmodes, -⟩ := invariantsHoldAtReset
  exact relation_of_step (P := State.busAgrees) (fun _ _ h => h.bus trivial) ⟨hidle, hmodes⟩ (fun _ _ h => h) hs

/-- Settles O58. -/
theorem ordersAgree : Obligations.OrdersAgree := fun _ _ hs => by
  obtain ⟨-, -, -, -, -, -, -, -, -, -, -, -, -, -, hreset, -⟩ := invariantsHoldAtReset
  exact relation_of_step (fun _ _ h => h.orders) hreset (fun _ _ h => h) hs

/-- Settles O59. -/
theorem holdsAgree : Obligations.HoldsAgree := fun _ _ hs => by
  obtain ⟨-, -, -, -, -, -, -, -, -, -, -, -, -, -, -, hreset, -⟩ := invariantsHoldAtReset
  exact relation_of_step (fun _ _ h => h.holds) hreset (fun _ _ h => h) hs

theorem lineAgrees_of_step (hs : s.port.lineAgrees) (h : step s = .next t) : t.port.lineAgrees := by
  obtain ⟨-, -, -, -, -, -, -, -, -, -, -, -, -, -, -, -, hreset⟩ := invariantsHoldAtReset
  exact relation_of_step (P := fun s => s.port.lineAgrees) (fun _ _ h => h.line) hreset (fun _ _ h => h) hs h

/-! ## The queue -/

/-- Settles O2: every event but a power-on reset keeps the queue with its relations, and a reset puts it back. -/
theorem eventsLeaveTheQueue : Obligations.EventsLeaveTheQueue := by
  intro i s
  by_cases hi : i = .powerOnReset
  · subst hi
    exact ⟨_, rfl, rfl⟩
  · obtain ⟨t, ht, hk⟩ := keeps_exec (p := True) (q := False) (s := s) hi False.elim
    exact ⟨t, ht, hk.queue⟩

/-- Settles O1. -/
theorem stepTakesTheFrontEvent : Obligations.StepTakesTheFrontEvent :=
  ⟨fun _ _ _ => rfl, fun _ h => by simp only [step, h]⟩

end Sys2Proof.Machine
end

section
/-! The commands of the port that read, configure and estimate, and the power-on values (R1 to R9, R87, R125, R126, R180,
R201, R202). -/

namespace Sys2Proof.Machine

open Sys2Proof

variable {s t : State} {c : Box}

/-! ## The marks of a taken command -/

/-- A command of one container carried out at once on a free port. -/
theorem exec_onBox {i : Instr} {len : Byte} {n : Nat} {carry : Box → State → Carried} {status : Status} {data : RespData}
    (hi : isPortCommand i = true) (hcarry : ∀ u, carryOut i u = withLength len n (withBox (byteOf c) carry) u)
    (hlen : len.toNat = n) (hs : s.portIsFree) (h : carry c (noteTaken s) = answer status data (noteTaken t)) :
    exec i s = .next (answered t status data) := by
  refine exec_eq_answered hi hs ?_
  rw [hcarry, withLength_eq hlen, byteOf, withBox_some boxOf_ofNat, h]

theorem evaluate_noteTaken : evaluate c (noteTaken s) = noteTaken (evaluate c s) := by
  rw [evaluate_eq, evaluate_eq]
  rfl

theorem raise_noteTaken {i : Item} : raise i (noteTaken s) = noteTaken (raise i s) :=
  congrArg (fun p => { s with port := p })
    (followLine_marks (p := { s.port with items := s.port.items ||| BitVec.twoPow 10 (itemBit i) }))

theorem appendHistory_noteTaken {e : HistoryEntry} :
    appendHistory e (noteTaken s) = noteTaken (appendHistory e s) := by
  have hport : (if NewsOfAppend (noteTaken s) then (raise .historyNew (noteTaken s)).port else (noteTaken s).port) =
      { (if NewsOfAppend s then (raise .historyNew s).port else s.port) with discarded := false, frame := .waiting } := by
    rw [raise_noteTaken]
    change (if NewsOfAppend s then _ else _) = _
    split <;> rfl
  rw [appendHistory_eq, appendHistory_eq, hport]
  rfl

theorem finishOrder_noteTaken {r : OrderOutcome} {cause : Option FailCause} {m : Option Nat} :
    finishOrder c r cause m (noteTaken s) = noteTaken (finishOrder c r cause m s) := by
  have hfind : (noteTaken s).orderOf c = s.orderOf c := rfl
  cases h : s.orderOf c with
  | none => rw [finishOrder_none (hfind.trans h), finishOrder_none h]
  | some o =>
    rw [finishOrder_some (hfind.trans h), finishOrder_some h, ← appendHistory_noteTaken]
    rfl

/-! ## Reset -/

/-- Settles O3. -/
theorem powerOnResetValues : Obligations.PowerOnResetValues := by
  intro s
  have hbay (c : Box) : State.bay { State.reset with pending := s.pending } c = {} := by simp [State.reset, State.bay]
  refine ⟨_, rfl, fun c => (hbay c).trans rfl, fun c => ?_, rfl, rfl, rfl, rfl, rfl, fun place => ?_, rfl, rfl, rfl,
    rfl, rfl, rfl, rfl, rfl, rfl, rfl, rfl, rfl, rfl, rfl, rfl⟩
  · rw [hbay]; rfl
  · simp [storedAt, State.reset]

/-! ## Reads -/

theorem effFill_eq {e : Estimate} :
    effFill e = if e.mode = .doubtful then max e.fill (e.mLast.getD 0) else e.fill := by
  unfold effFill
  cases e.mode <;> cases e.mLast <;> simp

/-- Settles O7: each command carried out at once on the free port. -/
theorem plainCommandsAnswer : Obligations.PlainCommandsAnswer := by
  intro s hs
  refine ⟨exec_eq_answered rfl hs rfl, fun len code _ => exec_eq_answered rfl hs rfl, exec_eq_answered rfl hs rfl,
    fun c => exec_onBox (len := 1) (n := 1) rfl (fun _ => rfl) rfl hs rfl, fun c => ?_, fun r => exec_eq_answered rfl hs rfl⟩
  dsimp only
  rw [← effFill_eq]
  exact exec_onBox (len := 1) (n := 1) rfl (fun _ => rfl) rfl hs rfl

/-! ## District settings -/

theorem settingsAccepted_iff {v : DistrictParams} : settingsAccepted (settingsCarried v) = true ↔
    ¬ (10079 < v.rollover.toNat ∨
      ∃ i : Fin 5, 1439 < (v.curfew[i]).start.toNat ∨ 1439 < (v.curfew[i]).stop.toNat) := by
  have hcurfew (i : Fin 5) : (settingsCarried v).curfew[i] =
      ⟨(v.curfew[i]).start.toNat, (v.curfew[i]).stop.toNat⟩ := by simp [settingsCarried]
  simp only [settingsAccepted, Bool.and_eq_true, decide_eq_true_eq, List.all_eq_true, not_or, not_exists, not_lt]
  refine and_congr Iff.rfl ⟨fun h i => ?_, fun h w hw => ?_⟩
  · have := h _ (Vector.mem_toList_iff.2 (Vector.getElem_mem i.isLt))
    have hi := hcurfew i
    simp only [Fin.getElem_fin] at hi
    simpa [hi] using this
  · obtain ⟨i, hi, rfl⟩ := Vector.mem_iff_getElem.1 (Vector.mem_toList_iff.1 hw)
    have := hcurfew ⟨i, hi⟩
    simp only [Fin.getElem_fin] at this
    rw [this]
    exact h ⟨i, hi⟩

theorem clampTo_eq_self {lo hi v : Nat} (h : lo ≤ hi) : clampTo lo hi v = v ↔ lo ≤ v ∧ v ≤ hi := by
  unfold clampTo
  omega

/-- Settings that are carried within their ranges are stored as carried. -/
theorem clampSettings_eq_self {v : Settings} : clampSettings v = v ↔
    (5 ≤ v.period ∧ v.period ≤ 60) ∧ (∀ i : Fin 16, v.plans[i] ≤ 250) ∧
      (2 ≤ v.nLost ∧ v.nLost ≤ 15) ∧ (30 ≤ v.tInact ∧ v.tInact ≤ 600) ∧
      (2 ≤ v.tOw ∧ v.tOw ≤ 30) ∧ (10 ≤ v.tDep ∧ v.tDep ≤ 120) ∧
      (2 ≤ v.tCl ∧ v.tCl ≤ 30) ∧ (5 ≤ v.tQ ∧ v.tQ ≤ 120) ∧ (10 ≤ v.tDock ∧ v.tDock ≤ 600) := by
  have hplans : (Vector.ofFn fun i : Fin 16 => clampTo 0 250 v.plans[i]) = v.plans ↔ ∀ i : Fin 16, v.plans[i] ≤ 250 := by
    refine ⟨fun h i => ?_, fun h => Vector.ext fun i hi => ?_⟩
    · have := congrArg (fun w => w[i]) h
      simp only [Fin.getElem_fin, Vector.getElem_ofFn] at this ⊢
      exact ((clampTo_eq_self (by decide)).1 this).2
    · rw [Vector.getElem_ofFn]
      exact (clampTo_eq_self (by decide)).2 ⟨Nat.zero_le _, h ⟨i, hi⟩⟩
  have hclamp {lo hi n : Nat} (h : lo ≤ hi) : lo ≤ n ∧ n ≤ hi ↔ clampTo lo hi n = n := (clampTo_eq_self h).symm
  rw [← hplans]
  obtain ⟨period, rollover, curfew, plans, nLost, tInact, tOw, tDep, tCl, tQ, tDock⟩ := v
  simp only [clampSettings, Settings.mk.injEq, true_and, hclamp (lo := 5) (hi := 60) (by decide),
    hclamp (lo := 2) (hi := 15) (by decide), hclamp (lo := 30) (hi := 600) (by decide),
    hclamp (lo := 2) (hi := 30) (by decide), hclamp (lo := 10) (hi := 120) (by decide),
    hclamp (lo := 5) (hi := 120) (by decide), hclamp (lo := 10) (hi := 600) (by decide)]

theorem exec_writeDistrictSettings_refused {v : DistrictParams} (hs : s.portIsFree)
    (h : settingsAccepted (settingsCarried v) = false) :
    exec (.writeDistrictSettings 48 v) s = .next (answered s .badCommand (.settings s.settings)) := by
  refine exec_eq_answered rfl hs ?_
  rw [carryOut, carryWriteDistrictSettings, withLength_eq (len := 48) (n := 48) rfl]
  dsimp only
  rw [if_neg (by simp [h])]
  rfl

theorem exec_writeDistrictSettings_taken {v : DistrictParams} (hs : s.portIsFree)
    (h : settingsAccepted (settingsCarried v) = true) :
    exec (.writeDistrictSettings 48 v) s = .next (answered (storeSettings (clampSettings (settingsCarried v)) s)
      (if clampSettings (settingsCarried v) = settingsCarried v then .ok else .okClamped) (.settings s.settings)) := by
  have hok : okIf (decide (clampSettings (settingsCarried v) ≠ settingsCarried v)) =
      if clampSettings (settingsCarried v) = settingsCarried v then .ok else .okClamped := by
    rw [okIf_decide, ite_not]
  rw [← hok]
  refine exec_eq_answered rfl hs ?_
  rw [carryOut, carryWriteDistrictSettings, withLength_eq (len := 48) (n := 48) rfl]
  dsimp only
  rw [if_pos h]
  rfl

/-- Settles O8: the acceptance of the carried values decides between the refusal and the storing of the clamped ones. -/
theorem districtSettingsAreStoredWhole : Obligations.DistrictSettingsAreStoredWhole := by
  intro s v hs
  refine ⟨fun hbad => ?_, fun hgood => ?_⟩
  · refine exec_writeDistrictSettings_refused hs ?_
    rw [← Bool.not_eq_true, settingsAccepted_iff, not_not]
    exact hbad
  · have hplans (i : Fin 16) : (settingsCarried v).plans[i] = (v.plans[i]).toNat := by simp [settingsCarried]
    have hwithin := clampSettings_eq_self (v := settingsCarried v)
    simp only [hplans] at hwithin
    have hok (a b : Status) : (if clampSettings (settingsCarried v) = settingsCarried v then a else b) =
        if (5 ≤ v.period.toNat ∧ v.period.toNat ≤ 60) ∧ (∀ i : Fin 16, (v.plans[i]).toNat ≤ 250) ∧
          (2 ≤ v.nLost.toNat ∧ v.nLost.toNat ≤ 15) ∧ (30 ≤ v.tInact.toNat ∧ v.tInact.toNat ≤ 600) ∧
          (2 ≤ v.tOw.toNat ∧ v.tOw.toNat ≤ 30) ∧ (10 ≤ v.tDep.toNat ∧ v.tDep.toNat ≤ 120) ∧
          (2 ≤ v.tCl.toNat ∧ v.tCl.toNat ≤ 30) ∧ (5 ≤ v.tQ.toNat ∧ v.tQ.toNat ≤ 120) ∧
          (10 ≤ v.tDock.toNat ∧ v.tDock.toNat ≤ 600) then a else b :=
      if_congr hwithin rfl rfl
    refine ⟨_, exec_writeDistrictSettings_taken hs (settingsAccepted_iff.2 hgood), ?_, rfl, rfl, fun i => ?_,
      fun i => ?_, rfl, rfl, rfl, rfl, rfl, rfl, rfl, rfl⟩
    · rw [hok]
      rfl
    · change (settingsCarried v).curfew[i] = _
      simp [settingsCarried]
    · change (clampSettings (settingsCarried v)).plans[i] = _
      simp [clampSettings, settingsCarried, clampTo]

/-! ## Configuration -/

theorem storeConfig_noteTaken {new : ContainerConfig} : storeConfig c new (noteTaken s) = noteTaken (storeConfig c new s) := by
  have hconf : configured c new (noteTaken s) = noteTaken (configured c new s) := rfl
  rw [storeConfig_eq, storeConfig_eq, hconf, evaluate_noteTaken]
  exact (apply_ite noteTaken _ _ _).symm

/-- Settles O12: the changes one after another come to the state `configured`, and then the evaluation. -/
theorem configWriteEffects : Obligations.ConfigWriteEffects := by
  intro s c new
  have hcond : (sameGeometry (s.bay c).record.config new && sameThresholds (s.bay c).record.config new) = true ↔
      ¬ (¬ ((s.bay c).record.config.capacity = new.capacity ∧ (s.bay c).record.config.depth = new.depth) ∨
        ¬ ((s.bay c).record.config.tOrder = new.tOrder ∧ (s.bay c).record.config.tClose = new.tClose ∧
          (s.bay c).record.config.tReopen = new.tReopen)) := by
    rw [Bool.and_eq_true, sameGeometry_iff, sameThresholds_iff]
    tauto
  dsimp only
  rw [storeConfig_eq, if_congr hcond rfl rfl, ite_not]
  rfl

theorem clampDependent_eq {k : ContainerConfig} (h : 0 < k.tClose) : clampDependent k =
    { k with tReopen := min k.tReopen (k.tClose - 1), fBlind := max k.fDoubt k.fBlind } := by
  have hreopen : (if k.tReopen < k.tClose then k.tReopen else k.tClose - 1) = min k.tReopen (k.tClose - 1) := by
    split <;> omega
  have hblind : (if k.fBlind < k.fDoubt then k.fDoubt else k.fBlind) = max k.fDoubt k.fBlind := by
    split <;> omega
  rw [clampDependent, hreopen, hblind]

theorem clampConfig_configCarried {f : Fraction} {v : ContainerParams} : clampConfig (configCarried f v) =
    { present := v.present != 0#8, fraction := f, cluster := v.cluster.toNat,
      capacity := max 500 (min 5000 v.capacity.toNat), depth := max 500 (min 4000 v.depth.toNat),
      drum := max 10 (min 250 v.drum.toNat), charge := min 4 v.charge.toNat,
      tOrder := max 10 (min 120 v.tOrder.toNat), tClose := max 20 (min 125 v.tClose.toNat),
      tReopen := min (min 124 v.tReopen.toNat) (max 20 (min 125 v.tClose.toNat) - 1),
      omax := max 10 (min 1000 v.omax.toNat),
      kmax := max 1 (min 64 v.kmax.toNat), vmin := max 20 (min 2000 v.vmin.toNat),
      residual := min 300 v.residual.toNat, fDoubt := max 1 (min 15 v.fDoubt.toNat),
      fBlind := max (max 1 (min 15 v.fDoubt.toNat)) (max 1 (min 15 v.fBlind.toNat)),
      rClean := max 1 (min 31 v.rClean.toNat), sBlind := max 2 (min 64 v.sBlind.toNat) } := by
  rw [clampConfig, clampDependent_eq (by simp [clampRanges, clampTo])]
  simp [clampRanges, configCarried, clampTo, isYes]

/-- A refused configuration write of a container answers with the values held. -/
theorem exec_writeContainerConfig {v : ContainerParams} {status : Status} (hs : s.portIsFree)
    (h : writeConfig v c (noteTaken s) = answer status (.config (s.bay c).record.config) (noteTaken t)) :
    exec (.writeContainerConfig 24 (byteOf c) v) s =
      .next (answered t status (.config (s.bay c).record.config)) :=
  exec_onBox (len := 24) (n := 24) rfl (fun _ => rfl) rfl hs h

theorem exec_writeContainerConfig_refused {v : ContainerParams} (hs : s.portIsFree)
    (hbad : fractionOf v.fraction = none ∨ 7 < v.cluster.toNat) :
    exec (.writeContainerConfig 24 (byteOf c) v) s =
      .next (answered s .badCommand (.config (s.bay c).record.config)) := by
  refine exec_writeContainerConfig hs ?_
  unfold writeConfig
  cases hf : fractionOf v.fraction with
  | none => rfl
  | some f =>
    dsimp only
    rw [if_pos (hbad.resolve_left (by simp [hf]))]
    rfl

theorem exec_writeContainerConfig_state {v : ContainerParams} {f : Fraction} (hs : s.portIsFree)
    (hf : fractionOf v.fraction = some f) (hcluster : v.cluster.toNat ≤ 7) (hstarted : (s.bay c).record.started = true)
    (hdiff : samePhysical (s.bay c).record.config (clampConfig (configCarried f v)) = false) :
    exec (.writeContainerConfig 24 (byteOf c) v) s =
      .next (answered s .state (.config (s.bay c).record.config)) := by
  refine exec_writeContainerConfig hs ?_
  unfold writeConfig
  simp only [hf]
  rw [if_neg (by omega), if_pos ⟨opState_ne_dormant.2 hstarted, hdiff⟩]
  rfl

theorem exec_writeContainerConfig_stored {v : ContainerParams} {f : Fraction} (hs : s.portIsFree)
    (hf : fractionOf v.fraction = some f) (hcluster : v.cluster.toNat ≤ 7)
    (hsame : (s.bay c).record.started = false ∨
      samePhysical (s.bay c).record.config (clampConfig (configCarried f v)) = true) :
    exec (.writeContainerConfig 24 (byteOf c) v) s = .next (answered (storeConfig c (clampConfig (configCarried f v)) s)
      (if clampConfig (configCarried f v) = configCarried f v then .ok else .okClamped)
      (.config (s.bay c).record.config)) := by
  have hok := okIf_decide (p := clampConfig (configCarried f v) ≠ configCarried f v)
  rw [ite_not] at hok
  rw [← hok]
  refine exec_writeContainerConfig hs ?_
  unfold writeConfig
  simp only [hf]
  rw [if_neg (by omega), if_neg, storeConfig_noteTaken]
  · rfl
  · rintro ⟨hne, hdiff⟩
    have hstarted : (s.bay c).record.started = true := (opState_ne_dormant (s := noteTaken s)).1 hne
    rcases hsame with h | h
    · rw [hstarted] at h; cases h
    · exact absurd h (by rw [show samePhysical (s.bay c).record.config _ = false from hdiff]; simp)

/-- Settles O11: the checks in order, and the stored configuration as the carried one clamped. -/
theorem configWritesAreChecked : Obligations.ConfigWritesAreChecked := by
  refine ⟨fun b => rfl, fun f => by cases f <;> rfl, fun s c v hs =>
    ⟨exec_writeContainerConfig_refused hs, fun f hf hcluster => ?_⟩⟩
  intro close doubt carried new same
  have hnew : clampConfig (configCarried f v) = new := clampConfig_configCarried
  have hsame : samePhysical (s.bay c).record.config (clampConfig (configCarried f v)) = true ↔ same := by
    rw [hnew]; exact samePhysical_iff
  refine ⟨fun ⟨hstarted, hdiff⟩ => ?_, fun htaken => ?_⟩
  · exact exec_writeContainerConfig_state hs hf hcluster hstarted (by rw [← Bool.not_eq_true, hsame]; exact hdiff)
  · have := exec_writeContainerConfig_stored (c := c) hs hf hcluster (htaken.imp_right hsame.2)
    rw [hnew] at this
    exact this

end Sys2Proof.Machine
end

section
/-! The commands that start, retire, reset and hold containers, and the card commands (R8, R9, R66 to R68, R125, R126,
R180). -/

namespace Sys2Proof.Machine

open Sys2Proof

variable {s t : State} {c : Box}

/-! ## Start and Retire -/

/-- Settles O13: each branch on the free port; a retired container's order leaves the list before or after its marks. -/
theorem startAndRetireAreTaken : Obligations.StartAndRetireAreTaken := by
  intro s c hs
  have hretire : (s.bay c).record.started = false ∨ (s.bay c).hold.requested = true ∨ (s.bay c).cycleActive = true ↔
      (s.bay c).record.started = false ∨ (s.bay c).hold.service = true ∨ (s.bay c).hold.emptying ≠ none ∨
        (s.bay c).hatch.cycle ≠ none := by
    rw [requested_iff, cycleActive_iff, or_assoc]
  refine ⟨fun h => ?_, fun h => ?_, fun h => ?_, fun ⟨hstarted, hserv, hemp, hcyc⟩ => ?_⟩
  · refine exec_onBox (len := 1) (n := 1) rfl (fun _ => rfl) rfl hs ((if_pos h).trans ?_)
    rw [← evaluate_noteTaken]
    rfl
  · exact exec_onBox (len := 1) (n := 1) rfl (fun _ => rfl) rfl hs (if_neg h)
  · exact exec_onBox (len := 1) (n := 1) rfl (fun _ => rfl) rfl hs (if_pos (hretire.2 h))
  · refine exec_onBox (len := 1) (n := 1) rfl (fun _ => rfl) rfl hs ((if_neg ?_).trans ?_)
    · exact fun h => absurd (hretire.1 h) (by simp [hstarted, hserv, hemp, hcyc])
    · rw [retireTaken, modRecord_eq_modBay, modEst_eq_modBay, ← finishOrder_modBay, modBay_modBay,
        ← finishOrder_noteTaken]
      rfl

/-! ## Estimate -/

theorem clampAmount_ne_iff {a : Int} : clampAmount a ≠ a ↔ a < -1000 ∨ 1000 < a := by
  unfold clampAmount
  omega

/-- Settles O18: the record set outright, evaluated, and answered with what stood. -/
theorem estimateCommandsSetRecords : Obligations.EstimateCommandsSetRecords := by
  intro s c v hs
  refine ⟨?_, ?_⟩
  · dsimp only
    rw [← okIf_decide]
    refine exec_onBox (len := 3) (n := 3) rfl (fun _ => rfl) rfl hs ?_
    rw [← evaluate_noteTaken]
    rfl
  · dsimp only
    rw [← if_congr clampAmount_ne_iff rfl rfl, ← okIf_decide]
    exact exec_onBox (len := 3) (n := 3) rfl (fun _ => rfl) rfl hs rfl

/-! ## Service holds -/

theorem claimState_eq {b : Bay} : claimState b =
    if b.hatch.cycle ≠ none then .quiescing else if b.hold.forced = true then .heldForced else .held := by
  simp only [claimState, cycleActive_iff]

theorem setService_eq {b : Bay} {len : Nat} : setService b.cycleActive len b.hold =
    { b.hold with service := true, tQ := if b.hatch.cycle ≠ none ∧ b.hold.tQ = none then some len else b.hold.tQ } := by
  have hcond : (b.cycleActive && b.hold.tQ.isNone) = true ↔ b.hatch.cycle ≠ none ∧ b.hold.tQ = none := by
    rw [Bool.and_eq_true, cycleActive_iff, Option.isNone_iff_eq_none]
  unfold setService startQuiescence
  rw [if_congr hcond rfl rfl]
  split <;> rfl

theorem settleSources_eq {h : Hold} : settleSources h =
    { h with tQ := if h.requested then h.tQ else none, forced := h.requested && h.forced } := by
  unfold settleSources
  cases h.requested <;> rfl

/-- Settles O27. -/
theorem serviceHoldsSetAndClear : Obligations.ServiceHoldsSetAndClear := by
  intro s c hs
  dsimp only
  rw [← claimState_eq]
  refine ⟨fun h => ?_, fun hstarted hserv => ?_, fun hstarted hserv => ?_, fun hserv => ?_, fun hserv => ?_⟩
  · exact exec_onBox (len := 1) (n := 1) rfl (fun _ => rfl) rfl hs (if_pos (opState_eq_dormant.2 h))
  · refine exec_onBox (len := 1) (n := 1) rfl (fun _ => rfl) rfl hs ((if_neg (opState_ne_dormant.2 hstarted)).trans ?_)
    exact if_pos hserv
  · refine exec_onBox (len := 1) (n := 1) rfl (fun _ => rfl) rfl hs ((if_neg (opState_ne_dormant.2 hstarted)).trans ?_)
    refine (if_neg (by rw [show ((noteTaken s).bay c).hold.service = false from hserv]; simp)).trans ?_
    have hset := setService_eq (b := s.bay c) (len := s.settings.tQ)
    have hbay : (noteTaken s).modHold c (setService (s.bay c).cycleActive s.settings.tQ) =
        noteTaken (s.modBay c fun b => { b with hold := { (s.bay c).hold with
          service := true
          tQ := if (s.bay c).hatch.cycle ≠ none ∧ (s.bay c).hold.tQ = none then some s.settings.tQ
            else (s.bay c).hold.tQ } }) := by
      refine (modBay_congr (s := noteTaken s) (g := fun b => { b with hold := _ }) ?_)
      dsimp only
      exact congrArg (fun h => { s.bay c with hold := h }) hset
    have hclaim : claimState (((noteTaken s).modHold c (setService (s.bay c).cycleActive s.settings.tQ)).bay c) =
        claimState (s.bay c) := by
      rw [modHold_eq_modBay, bay_modBay_self]
      have hactive (h : Hold) : Bay.cycleActive { s.bay c with hold := h } = (s.bay c).cycleActive := rfl
      simp only [claimState]
      change (if (s.bay c).cycleActive = true then _
        else if (setService (s.bay c).cycleActive s.settings.tQ (s.bay c).hold).forced = true then _ else _) = _
      rw [setService_eq]
    change answer .ok (.holdState (claimState (((noteTaken s).modHold c
      (setService (s.bay c).cycleActive s.settings.tQ)).bay c)))
      ((noteTaken s).modHold c (setService (s.bay c).cycleActive s.settings.tQ)) = _
    rw [hclaim, hbay]
  · exact exec_onBox (len := 1) (n := 1) rfl (fun _ => rfl) rfl hs
      (if_neg (by rw [show ((noteTaken s).bay c).hold.service = false from hserv]; simp))
  · refine exec_onBox (len := 1) (n := 1) rfl (fun _ => rfl) rfl hs ((if_pos hserv).trans ?_)
    have hset : settleSources { (s.bay c).hold with service := false } =
        if (s.bay c).hold.emptying = none then
          { (s.bay c).hold with service := false, tQ := none, forced := false }
        else { (s.bay c).hold with service := false } := by
      cases he : (s.bay c).hold.emptying <;> simp [settleSources, Hold.requested, he]
    refine congrArg (answer .ok .nothing) ?_
    refine modBay_congr (s := noteTaken s) (g := fun b => { b with hold := _ }) ?_
    exact congrArg (fun h => { s.bay c with hold := h }) hset

/-! ## The card list -/

theorem isFractionSet_iff {b : Byte} : isFractionSet b = true ↔ b.toNat < 32 := by
  have h : ∀ hi lo : Fin 16, isFractionSet (BitVec.ofNat 8 (16 * hi.val + lo.val)) = true ↔ 16 * hi.val + lo.val < 32 := by
    decide
  have hb := b.isLt
  have hsplit : 16 * (b.toNat / 16) + b.toNat % 16 = b.toNat := Nat.div_add_mod ..
  have := h ⟨b.toNat / 16, by omega⟩ ⟨b.toNat % 16, by omega⟩
  simp only [hsplit, BitVec.ofNat_toNat, BitVec.setWidth_eq] at this
  exact this

theorem isCardNumber_iff {card : Quad} : isCardNumber card = true ↔ ¬ (card = 0#32 ∨ card = 0xFFFFFFFF#32) := by
  simp [isCardNumber]

theorem cardStatusOf_eq_none {b : Byte} : cardStatusOf b = none ↔ 2 < b.toNat := by
  unfold cardStatusOf
  split
  next h => simp [h]
  next h => simp [h]
  next h => simp [h]
  next h0 h1 h2 =>
    refine iff_of_true rfl (Nat.lt_of_not_le fun hle => ?_)
    have hcases : b.toNat = 0 ∨ b.toNat = 1 ∨ b.toNat = 2 := by omega
    exact hcases.elim h0 fun h => h.elim h1 h2

theorem planOf_eq_none {b : Byte} : planOf b = none ↔ 15 < b.toNat := by
  unfold planOf
  split
  next h => exact iff_of_false (by simp) (by omega)
  next h => exact iff_of_true rfl (by omega)

theorem cardChecked_eq_none {card : Quad} {v : CardParams} : cardChecked card v = none ↔
    card = 0#32 ∨ card = 0xFFFFFFFF#32 ∨ 2 < v.status.toNat ∨ 15 < v.plan.toNat ∨ 32 ≤ v.fractions.toNat := by
  have hfrac : isFractionSet v.fractions = false ↔ 32 ≤ v.fractions.toNat := by
    rw [← Bool.not_eq_true, isFractionSet_iff, not_lt]
  rw [← cardStatusOf_eq_none, ← planOf_eq_none, ← hfrac, ← or_assoc]
  unfold cardChecked
  split
  next hn =>
    rw [isCardNumber_iff] at hn
    unfold cardFieldsOf
    cases cardStatusOf v.status <;> cases planOf v.plan <;> cases isFractionSet v.fractions <;> simp [hn]
  next hn =>
    rw [isCardNumber_iff, not_not] at hn
    simp [hn]

/-- What a checked card carries: the fields, the plan and the status of their codes, no allowance yet. -/
structure CardCarried (card : Quad) (v : CardParams) (k : CardRecord) : Prop where
  record : k = ⟨card.toNat, v.household.toNat, k.status, k.plan, v.clusters, v.fractions, 0⟩
  plan : k.plan.val = v.plan.toNat
  active : k.status = .active ↔ v.status.toNat = 0
  suspended : k.status = .suspended ↔ v.status.toNat = 1
  lost : k.status = .lost ↔ v.status.toNat = 2

theorem cardCarried_of_cardChecked {card : Quad} {v : CardParams} {k : CardRecord} (h : cardChecked card v = some k) :
    CardCarried card v k := by
  unfold cardChecked at h
  split at h
  · unfold cardFieldsOf at h
    split at h
    next st pl hst hpl _ =>
      obtain rfl := Option.some.inj h
      have hplan : pl.val = v.plan.toNat := by
        unfold planOf at hpl
        split at hpl
        · rw [← Option.some.inj hpl]
        · cases hpl
      unfold cardStatusOf at hst
      refine ⟨rfl, hplan, ?_, ?_, ?_⟩ <;> dsimp only <;> split at hst <;> cases hst <;> simp [*]
    next => cases h
  · cases h

/-! ## Insert Card -/

theorem exec_insertCard {card : Quad} {v : CardParams} {status : Status} (hs : s.portIsFree)
    (h : (match cardChecked card v with
      | none => refuse .badCommand (noteTaken s)
      | some k =>
        if ((noteTaken s).cardOf k.number).isSome then refuse .duplicate (noteTaken s)
        else if 4096 ≤ (noteTaken s).cards.length then refuse .full (noteTaken s)
        else answer .ok .nothing (addCard { k with remaining := planValue (noteTaken s) k } (noteTaken s))) =
      answer status .nothing (noteTaken t)) :
    exec (.insertCard 10 card v) s = .next (answered t status .nothing) :=
  exec_eq_answered rfl hs h

theorem cardOf_isSome {n : Nat} : (s.cardOf n).isSome = true ↔ ∃ k ∈ s.cards, k.number = n := by
  rw [Option.isSome_iff_ne_none, Ne, cardOf_eq_none]
  push Not
  rfl

/-- Settles O14: the checks in order, and the record that joins the list in its place. -/
theorem insertCardAddsInOrder : Obligations.InsertCardAddsInOrder := by
  refine ⟨fun s place => ⟨fun k hk => by simp [storedAt, hk], fun hlen hused => ?_⟩, fun s card v hs => ?_⟩
  · rw [storedAt, List.getElem?_eq_none hlen, if_neg (by omega)]
  · intro bad present
    have hbad : cardChecked card v = none ↔ bad := cardChecked_eq_none
    refine ⟨fun h => ?_, fun h hp => ?_, fun h hp hfull => ?_, fun h hp hroom => ?_⟩
    · refine exec_insertCard hs ?_
      rw [hbad.2 h]
      rfl
    all_goals
      obtain ⟨k, hk⟩ := Option.ne_none_iff_exists'.1 fun e => h (hbad.1 e)
      have hcarried := cardCarried_of_cardChecked hk
      have hnum : k.number = card.toNat := by rw [hcarried.record]
      have hdup : ((noteTaken s).cardOf k.number).isSome = true ↔ present := by
        rw [hnum]; exact cardOf_isSome (s := s)
    · refine exec_insertCard hs ?_
      rw [hk]
      exact if_pos (hdup.2 hp)
    · refine exec_insertCard hs ?_
      rw [hk]
      exact (if_neg (not_iff_not.2 hdup |>.2 hp)).trans (if_pos hfull)
    · refine ⟨_, exec_insertCard (t := addCard { k with remaining := planValue s k } s) hs ?_, rfl, fun hord => ?_,
        { k with remaining := planValue s k }, insertCardRecord_perm _, ?_, hcarried.plan, hcarried.active,
        hcarried.suspended, hcarried.lost⟩
      · rw [hk]
        exact (if_neg (not_iff_not.2 hdup |>.2 hp)).trans (if_neg (by change ¬ 4096 ≤ s.cards.length; omega))
      · obtain ⟨hpair, hlen, hnumbers⟩ := hord
        have hnew : ∀ x ∈ s.cards, x.number ≠ k.number := fun x hx e => hp ⟨x, hx, e.trans hnum⟩
        refine ⟨pairwise_insertCardRecord (k := { k with remaining := planValue s k }) hpair hnew, ?_, fun x hx => ?_⟩
        · change (insertCardRecord _ s.cards).length ≤ 4096
          rw [length_insertCardRecord]; omega
        · rcases List.mem_cons.1 ((insertCardRecord_perm s.cards).mem_iff.1 hx) with rfl | hx
          · exact (number_of_cardChecked hk).2
          · exact hnumbers x hx
      · have := hcarried.record
        rw [this]
        rfl

/-! ## Update Card and Remove Card -/

theorem exec_updateCard {card : Quad} {v : CardParams} {status : Status} {data : RespData} (hs : s.portIsFree)
    (h : (match cardChecked card v with
      | none => refuse .badCommand (noteTaken s)
      | some k =>
        match (noteTaken s).cardOf k.number with
        | none => refuse .notFound (noteTaken s)
        | some old => answer .ok (.cardRecord old) ((noteTaken s).modCard k.number (updatedCard (noteTaken s) k))) =
      answer status data (noteTaken t)) :
    exec (.updateCard 10 card v) s = .next (answered t status data) :=
  exec_eq_answered rfl hs h

theorem exec_removeCard {card : Quad} {status : Status} {data : RespData} (hs : s.portIsFree)
    (h : (if isCardNumber card then
        match (noteTaken s).cardOf card.toNat with
        | none => refuse .notFound (noteTaken s)
        | some old => answer .ok (.cardRecord old) (dropCard card.toNat (noteTaken s))
      else refuse .badCommand (noteTaken s)) = answer status data (noteTaken t)) :
    exec (.removeCard 4 card) s = .next (answered t status data) :=
  exec_eq_answered rfl hs h

/-- Two cards of a list in order have the same number only where they are the same. -/
theorem eq_of_number_eq {l : List CardRecord} (h : l.Pairwise fun a b => a.number < b.number) {x y : CardRecord}
    (hx : x ∈ l) (hy : y ∈ l) (he : x.number = y.number) : x = y := by
  have hnodup : (l.map CardRecord.number).Nodup :=
    List.pairwise_map.2 (h.imp fun hab => Nat.ne_of_lt hab)
  exact List.inj_on_of_nodup_map hnodup hx hy he

/-- Settles O15: the number's record is the only one of the list, so that one record is replaced. -/
theorem cardsAreUpdatedAndRemoved : Obligations.CardsAreUpdatedAndRemoved := by
  intro s card v hs ⟨hpair, _⟩ noNumber bad found
  have hbad : cardChecked card v = none ↔ bad := by
    rw [cardChecked_eq_none]
    exact or_assoc.symm
  have hnumber : isCardNumber card = true ↔ ¬ noNumber := isCardNumber_iff
  have hfound : s.cardOf card.toNat = found := rfl
  refine ⟨fun h => ?_, fun h hnone => ?_, fun old h hsome => ?_, fun h => ?_, fun h hnone => ?_, fun old h hsome => ?_⟩
  · refine exec_updateCard hs ?_
    rw [hbad.2 h]
    rfl
  · obtain ⟨k, hk⟩ := Option.ne_none_iff_exists'.1 fun e => h (hbad.1 e)
    have hnum : k.number = card.toNat := by rw [(cardCarried_of_cardChecked hk).record]
    have hcard : (noteTaken s).cardOf k.number = none := by rw [hnum]; exact hfound.trans hnone
    refine exec_updateCard hs ?_
    simp only [hk, hcard]
    rfl
  · obtain ⟨k, hk⟩ := Option.ne_none_iff_exists'.1 fun e => h (hbad.1 e)
    have hcarried := cardCarried_of_cardChecked hk
    have hnum : k.number = card.toNat := by rw [hcarried.record]
    have hcard : (noteTaken s).cardOf k.number = some old := by rw [hnum]; exact hfound.trans hsome
    obtain ⟨hold, holdnum⟩ := mem_of_cardOf (hfound.trans hsome)
    refine ⟨{ k with remaining := min old.remaining (planValue s k) }, exec_updateCard hs ?_, ?_, hcarried.plan,
      hcarried.active, hcarried.suspended, hcarried.lost⟩
    · simp only [hk, hcard]
      refine congrArg (answer .ok (.cardRecord old)) ?_
      refine congrArg (fun l => noteTaken { s with cards := l }) (List.map_congr_left fun x hx => ?_)
      by_cases he : x.number = card.toNat
      · rw [if_pos (he.trans hnum.symm), if_pos he, eq_of_number_eq hpair hx hold (he.trans holdnum.symm)]
        rfl
      · rw [if_neg (by rwa [hnum]), if_neg he]
    · have := hcarried.record
      rw [this]
      rfl
  · refine exec_removeCard hs ?_
    rw [if_neg (by rw [hnumber, not_not]; exact h)]
    rfl
  · refine exec_removeCard hs ?_
    rw [if_pos (hnumber.2 h), show (noteTaken s).cardOf card.toNat = none from hfound.trans hnone]
    rfl
  · refine exec_removeCard hs ?_
    rw [if_pos (hnumber.2 h), show (noteTaken s).cardOf card.toNat = some old from hfound.trans hsome]
    rfl

/-! ## Read Card -/

theorem exec_readCard {card : Quad} {mode : Byte} {status : Status} {data : RespData} (hs : s.portIsFree)
    (h : (match cardSearch s card mode with
      | none => refuse .badCommand (noteTaken s)
      | some none => answer .notFound (.cardRead none s.cards.length) (noteTaken s)
      | some (some k) =>
        answer .ok (.cardRead (some (k, s.openCards.contains k.number)) s.cards.length) (noteTaken s)) =
      answer status data (noteTaken s)) :
    exec (.readCard 5 card mode) s = .next (answered s status data) :=
  exec_eq_answered rfl hs h

/-- The first card of a list in order with a number above one is the one with the least such number. -/
theorem find?_next {l : List CardRecord} (h : l.Pairwise fun a b => a.number < b.number) {n : Nat} {k : CardRecord}
    (hk : k ∈ l) (hlt : n < k.number) (hleast : ∀ x ∈ l, n < x.number → k.number ≤ x.number) :
    l.find? (fun x => decide (n < x.number)) = some k := by
  obtain ⟨x, hx⟩ := Option.isSome_iff_exists.1
      ((List.find?_isSome (p := fun x => decide (n < x.number))).2 ⟨k, hk, decide_eq_true hlt⟩)
  obtain ⟨hp, before, after, rfl, hbefore⟩ := List.find?_eq_some_iff_append.1 hx
  have hxlt : n < x.number := of_decide_eq_true hp
  rw [hx]
  rcases List.mem_append.1 hk with hb | ha
  · have := hbefore k hb
    simp [hlt] at this
  · rcases List.mem_cons.1 ha with rfl | ha
    · rfl
    · have hle := hleast x (by simp) hxlt
      have hgt := (List.pairwise_cons.1 (List.pairwise_append.1 h).2.1).1 k ha
      omega

/-- Settles O16. -/
theorem readCardFindsTheRecord : Obligations.ReadCardFindsTheRecord := by
  intro s card mode hs ⟨hpair, _, hnumbers⟩
  have hopen (k : CardRecord) : s.openCards.contains k.number = decide (k.number ∈ s.openCards) := by
    rw [List.contains_eq_mem]
  have hexact : cardSearch s card 0#8 = some (s.cardOf card.toNat) := rfl
  have hnext : cardSearch s card 1#8 = some (s.cards.find? fun k => decide (card.toNat < k.number)) := rfl
  refine ⟨fun hmode => ?_, fun k hk hnum => ?_, fun hnone => ?_, fun k hk hlt hleast => ?_, fun hnone => ?_⟩
  · have hsearch : cardSearch s card mode = none := by
      unfold cardSearch
      split
      · omega
      · omega
      · rfl
    refine exec_readCard hs ?_
    rw [hsearch]
    rfl
  · obtain ⟨x, hx⟩ := Option.isSome_iff_exists.1 (cardOf_isSome.2 ⟨k, hk, hnum⟩)
    obtain ⟨hmem, hxnum⟩ := mem_of_cardOf hx
    obtain rfl := eq_of_number_eq hpair hmem hk (hxnum.trans hnum.symm)
    refine exec_readCard hs ?_
    rw [hexact, hx, ← hopen]
  · have hcard : s.cardOf card.toNat = none := by
      rw [cardOf_eq_none]
      intro k hk he
      have := hnumbers k hk
      rcases hnone with h | rfl | rfl
      · exact h k hk he
      · simp at he; omega
      · simp at he; omega
    refine exec_readCard hs ?_
    rw [hexact, hcard]
  · refine exec_readCard hs ?_
    rw [hnext, find?_next hpair hk hlt hleast, ← hopen]
  · have hfind : (s.cards.find? fun k => decide (card.toNat < k.number)) = none := by
      rw [List.find?_eq_none]
      intro k hk
      simpa using hnone k hk
    refine exec_readCard hs ?_
    rw [hnext, hfind]

end Sys2Proof.Machine
end

section
/-! Evaluation, the order list and the commands over it (R134 to R138, R144, R145, R156, R157, R165, R181). -/

namespace Sys2Proof.Machine

open Sys2Proof

variable {s t : State} {c d : Box}

/-! ## Evaluation -/

theorem flagAfter_eq {k : ContainerConfig} {e : Estimate} : flagAfter k e =
    if k.tClose * k.capacity / 100 ≤ effFill e then true
    else if effFill e < k.tReopen * k.capacity / 100 then false else e.closeFlag := rfl

theorem callsForOrder_iff {k : ContainerConfig} {e : Estimate} : callsForOrder k e = true ↔
    k.tOrder * k.capacity / 100 ≤ effFill e ∨ e.mode = .blind := by
  rw [callsForOrder, Bool.or_eq_true, decide_eq_true_eq, beq_iff_eq]
  rfl

/-- Settles O22: the one change of an evaluation, and the three branches of the order list. -/
theorem evaluationSetsFlagAndOrders : Obligations.EvaluationSetsFlagAndOrders := by
  intro c s b k full close reopen order flag calls n t
  have ht : t = { s with
      bays := (s.modBay c fun b =>
        { b with est := { b.est with closeFlag := flagAfter b.record.config b.est } }).bays
      orders := (orderingOf c (s.bay c).record (s.bay c).est s.orders s.orderCounter).1
      orderCounter := (orderingOf c (s.bay c).record (s.bay c).est s.orders s.orderCounter).2 } := evaluate_eq
  have hfull : effFill b.est = full := effFill_eq
  have hflag : flagAfter b.record.config b.est = flag := by rw [flagAfter_eq, hfull]
  have hcalls : (b.record.started && callsForOrder b.record.config b.est) = true ↔ calls := by
    rw [Bool.and_eq_true, callsForOrder_iff, hfull]
  have horders : t.orders = (orderingOf c b.record b.est s.orders s.orderCounter).1 := by rw [ht]
  have hcounter : t.orderCounter = (orderingOf c b.record b.est s.orders s.orderCounter).2 := by rw [ht]
  have hnone (h : ∀ o ∈ s.orders, o.container ≠ c) : (s.orders.find? fun o => o.container == c) = none :=
    orderOf_eq_none.2 h
  refine ⟨by rw [ht], fun d => ?_, fun hno hc => ?_, fun hno hc => ?_, fun ⟨o, ho, hoc⟩ => ?_⟩
  · rw [← hflag]
    by_cases hd : d = c
    · subst hd
      rw [if_pos rfl]
      exact bay_evaluate_self
    · rw [if_neg hd]
      exact bay_evaluate_ne hd
  · rw [horders, hcounter]
    unfold orderingOf
    rw [hnone hno]
    dsimp only
    rw [if_pos (hcalls.2 hc), hflag]
    refine ⟨?_, rfl⟩
    cases b.est.mode <;> rfl
  · rw [horders, hcounter]
    unfold orderingOf
    rw [hnone hno]
    dsimp only
    rw [if_neg (fun h => hc (hcalls.1 h))]
    exact ⟨rfl, rfl⟩
  · obtain ⟨x, hx⟩ := Option.ne_none_iff_exists'.1 fun e : s.orderOf c = none => orderOf_eq_none.1 e o ho hoc
    rw [horders, hcounter]
    unfold orderingOf
    rw [show (s.orders.find? fun o => o.container == c) = some x from hx]
    dsimp only
    have hcond : (flag && !b.est.closeFlag) = true ↔ flag = true ∧ b.est.closeFlag = false := by
      rw [Bool.and_eq_true, Bool.not_eq_true']
    rw [hflag, if_congr hcond rfl rfl]
    split <;> exact ⟨rfl, rfl⟩

/-! ## Rank -/

/-- The orders of one priority, in the order of the list. -/
theorem filter_ranked {l : List Order} (p : Nat) :
    (ranked l).filter (fun o => o.priority == p) = l.filter fun o => o.priority == p := by
  have hpiece (f g : Order → Bool) (hfg : ∀ o ∈ l, (o.priority == p && f o) = g o) :
      (l.filter f).filter (fun o => o.priority == p) = l.filter g := by
    rw [List.filter_filter]
    exact List.filter_congr hfg
  have hnone (f : Order → Bool) (hf : ∀ o ∈ l, o.priority = p → f o = false) :
      (l.filter f).filter (fun o => o.priority == p) = [] := by
    rw [List.filter_filter, List.filter_eq_nil_iff]
    intro o ho he
    rw [Bool.and_eq_true, beq_iff_eq] at he
    rw [hf o ho he.1] at he
    exact absurd he.2 (by simp)
  have hall (f : Order → Bool) (hf : ∀ o, o.priority = p → f o = true) :
      (l.filter f).filter (fun o => o.priority == p) = l.filter fun o => o.priority == p :=
    hpiece _ _ fun o _ => by
      by_cases he : o.priority = p
      · simp [he, hf o he]
      · simp [he]
  rw [ranked, List.filter_append, List.filter_append, List.filter_append]
  by_cases h3 : 3 ≤ p
  · rw [hall _ (by intro o e; simp [e, h3]), hnone (fun o => o.priority == 2) (by intro o _ e; simp; omega),
      hnone (fun o => o.priority == 1) (by intro o _ e; simp; omega),
      hnone (fun o => o.priority == 0) (by intro o _ e; simp; omega)]
    simp
  · rw [hnone (fun o => decide (3 ≤ o.priority)) (by intro o _ e; simp; omega)]
    have hp : p = 0 ∨ p = 1 ∨ p = 2 := by omega
    rcases hp with rfl | rfl | rfl
    · rw [hnone (fun o => o.priority == 2) (by intro o _ e; simp [e]),
        hnone (fun o => o.priority == 1) (by intro o _ e; simp [e]), hall (fun o => o.priority == 0) (by simp)]
      simp
    · rw [hnone (fun o => o.priority == 2) (by intro o _ e; simp [e]), hall (fun o => o.priority == 1) (by simp),
        hnone (fun o => o.priority == 0) (by intro o _ e; simp [e])]
      simp
    · rw [hall (fun o => o.priority == 2) (by simp), hnone (fun o => o.priority == 1) (by intro o _ e; simp [e]),
        hnone (fun o => o.priority == 0) (by intro o _ e; simp [e])]
      simp

/-- A list is made up of its orders of each priority. -/
theorem perm_ranked {l : List Order} : (ranked l).Perm l := by
  rw [List.perm_iff_count]
  intro a
  have hpos (f : Order → Bool) (h : f a = true) : (l.filter f).count a = l.count a := List.count_filter h
  have hzero (f : Order → Bool) (h : f a = false) : (l.filter f).count a = 0 :=
    List.count_eq_zero.2 fun hm => by rw [(List.mem_filter.1 hm).2] at h; cases h
  simp only [ranked, List.count_append]
  have hp : 3 ≤ a.priority ∨ a.priority = 2 ∨ a.priority = 1 ∨ a.priority = 0 := by omega
  rcases hp with h | h | h | h
  · rw [hpos (fun o => decide (3 ≤ o.priority)) (by simpa using h), hzero (fun o => o.priority == 2) (by simp; omega),
      hzero (fun o => o.priority == 1) (by simp; omega), hzero (fun o => o.priority == 0) (by simp; omega)]
    omega
  · rw [hzero (fun o => decide (3 ≤ o.priority)) (by simp [h]), hpos (fun o => o.priority == 2) (by simp [h]),
      hzero (fun o => o.priority == 1) (by simp [h]), hzero (fun o => o.priority == 0) (by simp [h])]
    omega
  · rw [hzero (fun o => decide (3 ≤ o.priority)) (by simp [h]), hzero (fun o => o.priority == 2) (by simp [h]),
      hpos (fun o => o.priority == 1) (by simp [h]), hzero (fun o => o.priority == 0) (by simp [h])]
    omega
  · rw [hzero (fun o => decide (3 ≤ o.priority)) (by simp [h]), hzero (fun o => o.priority == 2) (by simp [h]),
      hzero (fun o => o.priority == 1) (by simp [h]), hpos (fun o => o.priority == 0) (by simp [h])]
    omega

theorem pairwise_ranked {l : List Order} (h : ∀ o ∈ l, o.priority ≤ 3) :
    (ranked l).Pairwise fun a b => b.priority ≤ a.priority := by
  have hsame (f : Order → Bool) (n : Nat) (hf : ∀ o ∈ l, f o = true → o.priority = n) :
      (l.filter f).Pairwise fun a b => b.priority ≤ a.priority :=
    List.pairwise_iff_forall_sublist.2 fun hab => by
      have ha := List.mem_filter.1 (hab.subset List.mem_cons_self)
      have hb := List.mem_filter.1 (hab.subset (List.mem_cons_of_mem _ List.mem_cons_self))
      rw [hf _ ha.1 ha.2, hf _ hb.1 hb.2]
  rw [ranked, List.append_assoc, List.append_assoc]
  refine List.pairwise_append.2 ⟨hsame _ 3 fun o ho hf => ?_, List.pairwise_append.2 ⟨hsame _ 2 fun o ho hf => ?_,
    List.pairwise_append.2 ⟨hsame _ 1 fun o ho hf => ?_, hsame _ 0 fun o ho hf => ?_, ?_⟩, ?_⟩, ?_⟩
  · have := h o ho
    have := of_decide_eq_true hf
    omega
  · simpa using hf
  · simpa using hf
  · simpa using hf
  all_goals
    simp only [List.mem_append, List.mem_filter, beq_iff_eq, decide_eq_true_eq]
    intro a ha b hb
    omega

/-! ## A free number -/

theorem nextNumber_eq {n : Nat} (h : 1 ≤ n ∧ n ≤ 65535) : nextNumber n = n % 65535 + 1 := by
  unfold nextNumber
  split <;> omega

theorem iterate_nextNumber {n : Nat} (h : 1 ≤ n ∧ n ≤ 65535) (i : Nat) :
    nextNumber^[i] n = (n - 1 + i) % 65535 + 1 := by
  induction i with
  | zero => simp only [Function.iterate_zero, id]; omega
  | succ i ih => rw [Function.iterate_succ_apply', ih, nextNumber_eq (by omega)]; omega

theorem freeNumber_inRange {l : List Order} : ∀ (fuel : Nat) {n : Nat}, 1 ≤ n ∧ n ≤ 65535 →
    1 ≤ freeNumber l fuel n ∧ freeNumber l fuel n ≤ 65535
  | 0, _, h => h
  | fuel + 1, _, h => by
    unfold freeNumber
    split
    · exact freeNumber_inRange fuel nextNumber_inRange
    · exact h

/-- The search answers a free number where one of the numbers it tries is free. -/
theorem freeNumber_free {l : List Order} : ∀ (fuel : Nat) {n i : Nat}, i < fuel →
    (∀ o ∈ l, o.number ≠ nextNumber^[i] n) → ∀ o ∈ l, o.number ≠ freeNumber l fuel n
  | fuel + 1, n, i, hi, hfree => by
    unfold freeNumber
    split
    next hany =>
      cases i with
      | zero =>
        obtain ⟨o, ho, he⟩ := List.any_eq_true.1 hany
        exact absurd (by simpa using he) (hfree o ho)
      | succ i => exact freeNumber_free fuel (Nat.lt_of_succ_lt_succ hi) hfree
    next hany =>
      intro o ho he
      exact hany (List.any_eq_true.2 ⟨o, ho, by simpa using he⟩)

/-- More numbers are tried than there are orders, so one of them is free. -/
theorem exists_free_number {l : List Order} {n : Nat} (h : 1 ≤ n ∧ n ≤ 65535) (hl : l.length < 65535) :
    ∃ i < l.length + 1, ∀ o ∈ l, o.number ≠ nextNumber^[i] n := by
  by_contra hall
  push Not at hall
  have hcard : (l.map Order.number).toFinset.card < (Finset.range (l.length + 1)).card := by
    rw [Finset.card_range]
    exact Nat.lt_succ_of_le ((List.toFinset_card_le _).trans (List.length_map _).le)
  obtain ⟨i, hi, j, hj, hne, heq⟩ := Finset.exists_ne_map_eq_of_card_lt_of_maps_to hcard
    (f := fun i => nextNumber^[i] n) fun i hi => by
      obtain ⟨o, ho, he⟩ := hall i (Finset.mem_range.1 hi)
      exact List.mem_toFinset.2 (List.mem_map.2 ⟨o, ho, he⟩)
  simp only [iterate_nextNumber h] at heq
  rw [Finset.mem_range] at hi hj
  omega

/-- Settles O26. -/
theorem rankedOrders : Obligations.RankedOrders := by
  refine ⟨fun l h => ⟨perm_ranked, pairwise_ranked h, filter_ranked⟩, fun s first hs => exec_eq_answered rfl hs rfl,
    fun s hlow hhigh hlen => ?_⟩
  obtain ⟨i, hi, hfree⟩ := exists_free_number (l := s.orders) ⟨hlow, hhigh⟩ (by omega)
  refine ⟨freeNumber_free _ hi hfree, freeNumber_inRange _ ⟨hlow, hhigh⟩ |>.1, freeNumber_inRange _ ⟨hlow, hhigh⟩ |>.2,
    fun hnot => ?_⟩
  unfold assignedNumber freeNumber
  rw [if_neg]
  intro hany
  obtain ⟨o, ho, he⟩ := List.any_eq_true.1 hany
  exact hnot o ho (by simpa using he)

/-! ## The order of a container changes -/

theorem modOrder_modOrder {f g : Order → Order} (hf : ∀ o, (f o).container = o.container) :
    (s.modOrder c f).modOrder c g = s.modOrder c fun o => g (f o) := by
  refine congrArg (fun l => { s with orders := l }) ?_
  dsimp only [State.modOrder]
  rw [List.map_map]
  refine List.map_congr_left fun o _ => ?_
  by_cases ho : o.container = c
  · simp [ho, hf]
  · simp [ho]

/-- An order returned: finished as Aborted where its abort is requested, else Pending (R155). -/
theorem returnOrder_some {o : Order} (h : s.orderOf c = some o) : returnOrder c s =
    if o.abortRequested then
      appendHistory (entryOf s o .aborted none none)
        { s with orders := s.orders.filter fun x => decide (x.container ≠ c) }
    else s.modOrder c fun x => { x with state := .pending, vehicle := none } := by
  unfold returnOrder
  rw [h]
  dsimp only
  split
  · exact finishOrder_some h
  · rfl

/-- An attempt that failed counts, and finishes, aborts or returns the order (R156). -/
theorem failAttempt_some {o : Order} {cause : FailCause} (h : s.orderOf c = some o) : failAttempt c cause s =
    if isExhausted { o with attempts := o.attempts + 1 } then
      appendHistory (entryOf s { o with attempts := o.attempts + 1 } .failed (some cause) none)
        { s with orders := s.orders.filter fun x => decide (x.container ≠ c) }
    else if o.abortRequested then
      appendHistory (entryOf s { o with attempts := o.attempts + 1 } .aborted none none)
        { s with orders := s.orders.filter fun x => decide (x.container ≠ c) }
    else s.modOrder c fun x => { x with attempts := x.attempts + 1, state := .pending, vehicle := none } := by
  have hc : ∀ o : Order, Order.container { o with attempts := o.attempts + 1 } = o.container := fun _ => rfl
  have hfound : (s.modOrder c fun o => { o with attempts := o.attempts + 1 }).orderOf c =
      some { o with attempts := o.attempts + 1 } := by rw [orderOf_modOrder hc, h, Option.map_some]
  unfold failAttempt
  dsimp only
  rw [hfound]
  dsimp only
  rw [finishOrder_modOrder hc h, returnOrder_some hfound, filter_modOrder hc, modOrder_modOrder hc]
  rfl

/-! ## Abort Order -/

theorem exec_abortOrder {n : Half} {status : Status} {data : RespData} (hs : s.portIsFree)
    (h : (match s.orders.find? fun o => o.number == n.toNat with
      | none => refuse .notFound (noteTaken s)
      | some o => answer .ok (.orderState o.state) (abortTaken o (noteTaken s))) = answer status data (noteTaken t)) :
    exec (.abortOrder 2 n) s = .next (answered t status data) :=
  exec_eq_answered rfl hs h

/-- Settles O24: with one order per container, the order of the number is the one found at its container. -/
theorem abortOrderFinishesOrMarks : Obligations.AbortOrderFinishesOrMarks := by
  intro s n hs ⟨hnodup, _⟩
  dsimp only
  have hof {o : Order} (h : (s.orders.find? fun o => o.number == n.toNat) = some o) :
      s.orderOf o.container = some o := by
    have hmem := List.mem_of_find?_eq_some h
    obtain ⟨x, hx⟩ := Option.ne_none_iff_exists'.1 fun e : s.orderOf o.container = none =>
      orderOf_eq_none.1 e o hmem rfl
    obtain ⟨hxmem, hxc⟩ := mem_of_orderOf hx
    rw [hx, eq_of_mem_of_container hnodup hxmem hmem hxc]
  refine ⟨fun h => exec_abortOrder hs (by rw [h]; rfl), fun o h hp => exec_abortOrder hs ?_, fun o h hp =>
    exec_abortOrder hs ?_⟩
  · rw [h, ← appendHistory_noteTaken]
    dsimp only
    unfold abortTaken
    dsimp only
    rw [hp]
    dsimp only
    rw [finishOrder_modOrder (s := noteTaken s) (f := fun x => { x with abortRequested := true }) (fun _ => rfl) (hof h)]
    rfl
  · rw [h]
    dsimp only
    unfold abortTaken
    cases hst : o.state with
    | pending => exact absurd hst hp
    | offered => rfl
    | claimed => rfl

/-! ## Release Orphan -/

theorem releasedHold_eq {h : Hold} : releasedHold h =
    { h with
      emptying := none, orphan := false, reported := false
      tQ := if h.service = true then h.tQ else none, forced := h.service && h.forced } := by
  rw [releasedHold, settleSources_eq]
  simp [clearEmptying, Hold.requested]

/-- A taken Release Orphan, the hold released first (R181). -/
theorem releaseOrphanTaken_eq {v : Nat} : releaseOrphanTaken v c s =
    if (claimedNumber s c v).isSome then failAttempt c .linkLost (s.modHold c releasedHold)
    else s.modHold c releasedHold := by
  unfold releaseOrphanTaken
  dsimp only
  split
  · rw [modHold_settle_of_frame (g := failAttempt c .linkLost) fun f => failAttempt_modBay, modHold_eq_modBay,
      ← failAttempt_modBay]
    rfl
  · exact modHold_settle_of_frame (s := s) (c := c) (g := id) fun f => rfl

theorem exec_releaseOrphan {v : Nat} {x : OrphanFate} (hs : s.portIsFree) (hemp : (s.bay c).hold.emptying = some v)
    (horphan : (s.bay c).hold.orphan = true) (hfate : orphanFate s c v = x)
    (ht : releaseOrphanTaken v c (noteTaken s) = noteTaken t) :
    exec (.releaseOrphan 1 (byteOf c)) s = .next (answered t .ok (.orphan v x)) := by
  refine exec_onBox (len := 1) (n := 1) rfl (fun _ => rfl) rfl hs ?_
  have hemp' : ((noteTaken s).bay c).hold.emptying = some v := hemp
  have horphan' : ((noteTaken s).bay c).hold.orphan = true := horphan
  unfold releaseOrphanBox
  rw [hemp']
  dsimp only
  rw [if_pos horphan', ht, ← hfate]
  rfl

/-- Settles O28: the hold released, and the order that still stands under the orphan's id counts an attempt. -/
theorem releaseOrphanCountsAnAttempt : Obligations.ReleaseOrphanCountsAnAttempt := by
  intro s c hs
  dsimp only
  refine ⟨fun h => ?_, fun v hemp horphan => ?_⟩
  · refine exec_onBox (len := 1) (n := 1) rfl (fun _ => rfl) rfl hs ?_
    unfold releaseOrphanBox
    split
    · rfl
    next v hv =>
      rw [if_neg]
      · rfl
      · rcases h with h | h
        · rw [show (s.bay c).hold.emptying = some v from hv] at h; cases h
        · rw [show ((noteTaken s).bay c).hold.orphan = false from h]; simp
  · have hu : s.modHold c releasedHold = s.modBay c fun b => { b with hold :=
        { (s.bay c).hold with
          emptying := none, orphan := false, reported := false
          tQ := if (s.bay c).hold.service = true then (s.bay c).hold.tQ else none
          forced := (s.bay c).hold.service && (s.bay c).hold.forced } } := by
      rw [modHold_eq_modBay]
      refine modBay_congr ?_
      dsimp only
      rw [releasedHold_eq]
    rw [← hu]
    generalize hdef : s.modHold c releasedHold = u
    have hnote : (noteTaken s).modHold c releasedHold = noteTaken u := by rw [← hdef]; rfl
    have horders : u.orders = s.orders := by rw [← hdef]; rfl
    have hstamp : stamp (noteTaken u) = stamp s := by rw [← hdef]; rfl
    refine ⟨fun hno => exec_releaseOrphan hs hemp horphan ?_ ?_, fun o hfound hcl hveh => ?_⟩
    · have hnone : claimedNumber s c v = none := claimedNumber_eq_none.2 hno
      unfold orphanFate
      rw [hnone]
      cases s.orderOf c <;> rfl
    · have hnone : claimedNumber (noteTaken s) c v = none := claimedNumber_eq_none.2 hno
      rw [releaseOrphanTaken_eq, hnone, hnote]
      rfl
    · have hof : s.orderOf c = some o := hfound
      obtain ⟨-, hoc⟩ := mem_of_orderOf hof
      have hclaimed : claimedNumber s c v = some o.number := by
        unfold claimedNumber
        rw [hof]
        exact if_pos ⟨hcl, hveh⟩
      have htaken : releaseOrphanTaken v c (noteTaken s) = failAttempt c .linkLost (noteTaken u) := by
        rw [releaseOrphanTaken_eq, show claimedNumber (noteTaken s) c v = some o.number from hclaimed, hnote]
        rfl
      have hofu : (noteTaken u).orderOf c = some o := (orderOf_congr horders).trans hof
      have hfate : orphanFate s c v = if isExhausted { o with attempts := o.attempts + 1 } then .failed
          else if o.abortRequested then .aborted else .pending := by
        unfold orphanFate
        rw [hof, hclaimed]
        rfl
      have hentry (r : OrderOutcome) (cause : Option FailCause) :
          entryOf (noteTaken u) { o with attempts := o.attempts + 1 } r cause none =
          ⟨o.number, o.label, c, o.origin, r, o.abortRequested, cause, none, some v, stamp s, o.attempts + 1⟩ := by
        rw [entryOf, hstamp, ← hoc, ← hveh]
      rw [failAttempt_some hofu, hentry, hentry] at htaken
      have hex : isExhausted { o with attempts := o.attempts + 1 } = true ↔ o.oneShot = true ∨ 2 ≤ o.attempts := by
        simp [isExhausted]
      have hrest : ({ noteTaken u with orders := (noteTaken u).orders.filter fun x => decide (x.container ≠ c) } : State) =
          noteTaken { u with orders := s.orders.filter fun x => decide (x.container ≠ c) } := by
        rw [← horders]; rfl
      rw [hrest, appendHistory_noteTaken, appendHistory_noteTaken] at htaken
      refine ⟨fun h => ?_, fun hone hatt habort => ?_, fun hone hatt habort => ?_⟩
      · rw [if_pos (hex.2 h)] at hfate htaken
        exact exec_releaseOrphan hs hemp horphan hfate htaken
      · have hnot : ¬ isExhausted { o with attempts := o.attempts + 1 } = true := by
          rw [hex, hone]; simp; omega
        rw [if_neg hnot, if_pos habort] at hfate htaken
        exact exec_releaseOrphan hs hemp horphan hfate htaken
      · have hnot : ¬ isExhausted { o with attempts := o.attempts + 1 } = true := by
          rw [hex, hone]; simp; omega
        rw [if_neg hnot, habort] at hfate htaken
        refine exec_releaseOrphan hs hemp horphan hfate (htaken.trans ?_)
        rw [← horders]
        rfl

end Sys2Proof.Machine
end

section
/-! Level readings, the median, and the minute tick (R15 to R18, R109 to R112, R131). -/

namespace Sys2Proof.Machine

open Sys2Proof

variable {s t : State} {c d : Box}

/-! ## Readings -/

theorem discardsReading_iff {b : Bay} : discardsReading b = true ↔
    b.record.started = false ∨ b.hold.service = true ∨ b.hold.emptying ≠ none ∨ b.hatch.cycle ≠ none := by
  rw [discardsReading, Bool.or_eq_true, Bool.or_eq_true, requested_iff, cycleActive_iff, Bool.not_eq_true', or_assoc,
    or_assoc]

/-- The ranks of a full window: one entry is the oldest. -/
theorem exists_oldest {w : List Reading} (h : windowOrdered w) (h5 : w.length = 5) : ∃ r ∈ w, r.rank = 1 := by
  obtain ⟨-, -, hperm⟩ := h
  have : 1 ∈ w.map Reading.rank := hperm.mem_iff.2 (by simp [h5])
  exact List.mem_map.1 this

/-- The oldest entry is the one that goes, the ranks being distinct. -/
theorem erase_oldest {w : List Reading} (h : windowOrdered w) {r : Reading} (hr : r ∈ w) (h1 : r.rank = 1) :
    w.erase r = w.filter fun x => decide (x.rank ≠ 1) := by
  obtain ⟨-, -, hperm⟩ := h
  have hnodup : (w.map Reading.rank).Nodup := hperm.nodup_iff.2 List.nodup_range'
  rw [hnodup.of_map.erase_eq_filter]
  refine List.filter_congr fun x hx => ?_
  have hiff : x = r ↔ x.rank = 1 := ⟨fun e => e ▸ h1, fun e => List.inj_on_of_nodup_map hnodup hx hr (e.trans h1.symm)⟩
  rw [Bool.eq_iff_iff, bne_iff_ne, decide_eq_true_iff, Ne, hiff]

/-! ## The median -/

/-- The entries of an ordered window up to one place are at most its value, those from it on at least. -/
theorem countP_of_getElem {w : List Reading} (h : w.Pairwise fun a b => a.value ≤ b.value) {i : Nat} (hi : i < w.length) :
    i + 1 ≤ w.countP (fun r => decide (r.value ≤ (w[i]).value)) ∧
    w.length - i ≤ w.countP (fun r => decide ((w[i]).value ≤ r.value)) := by
  have hle (j k : Nat) (hj : j < w.length) (hk : k < w.length) (hjk : j ≤ k) : (w[j]).value ≤ (w[k]).value := by
    rcases Nat.eq_or_lt_of_le hjk with rfl | hlt
    · exact le_refl _
    · exact List.pairwise_iff_getElem.1 h j k hj hk hlt
  constructor
  · have hall : (w.take (i + 1)).countP (fun r => decide (r.value ≤ (w[i]).value)) = i + 1 := by
      rw [List.countP_eq_length.2, List.length_take]
      · omega
      · intro a ha
        obtain ⟨j, hj, rfl⟩ := List.mem_iff_getElem.1 ha
        rw [List.length_take] at hj
        rw [List.getElem_take]
        exact decide_eq_true (hle j i (by omega) hi (by omega))
    rw [← hall]
    exact (List.take_sublist ..).countP_le
  · have hall : (w.drop i).countP (fun r => decide ((w[i]).value ≤ r.value)) = w.length - i := by
      rw [List.countP_eq_length.2, List.length_drop]
      intro a ha
      obtain ⟨j, hj, rfl⟩ := List.mem_iff_getElem.1 ha
      rw [List.length_drop] at hj
      rw [List.getElem_drop]
      exact decide_eq_true (hle i (i + j) hi (by omega) (by omega))
    rw [← hall]
    exact (List.drop_sublist ..).countP_le

/-- Settles O20: the filed window by what makes room and what is placed, the measurement by its place in the middle. -/
theorem readingsAndMedian : Obligations.ReadingsAndMedian := by
  refine ⟨fun c s => ⟨rfl, fun h => ?_⟩, fun m w hw => ⟨windowOrdered_fileReading hw, ?_, ?_⟩, fun w hw => ⟨?_, ?_⟩⟩
  · exact if_congr discardsReading_iff rfl rfl
  · exact ⟨⟨m, (makeRoom w).length + 1⟩, (placeReading_perm _).mem_iff.2 List.mem_cons_self, rfl,
      length_fileReading.symm⟩
  · intro joins
    have hjoins : joins (makeRoom w) := placeReading_split _ (windowOrdered_makeRoom hw).1
    refine ⟨fun hlt => ?_, fun h5 => ⟨exists_oldest hw h5, fun r hr h1 => ?_⟩⟩
    · rwa [makeRoom, if_neg (by omega)] at hjoins
    · rw [makeRoom, if_pos (by omega)] at hjoins
      rw [erase_oldest hw hr h1]
      exact hjoins
  · exact fun hlt => if_neg (by omega)
  · intro h3
    have hi : (w.length + 1) / 2 - 1 < w.length := by omega
    have hm : measurement w = some (w[(w.length + 1) / 2 - 1]).value := by
      rw [measurement, if_pos h3, List.getElem?_eq_getElem hi]
      rfl
    obtain ⟨hlow, hhigh⟩ := countP_of_getElem hw hi
    exact ⟨_, hm, List.mem_map.2 ⟨_, List.getElem_mem hi, rfl⟩, by omega, by omega⟩

/-! ## The correction of one container in a period tick -/

theorem periodCounts_eq : periodCounts s c =
    (decide (s.bus.state = .active ∨ s.bus.state = .woken) && !(s.bay c).hold.requested) := by
  unfold periodCounts
  cases s.bus.state <;> rfl

/-- The record a period tick leaves, but for the close flag of its evaluation. -/
def correctedEst (s : State) (c : Box) : Estimate :=
  correctRecord (s.bay c).record.config (periodCounts s c) (s.bay c).est

/-- The estimate of a container enters Blind at its correction (R131). -/
def entersBlind (s : State) (c : Box) : Prop :=
  (correctedEst s c).mode = .blind ∧ (s.bay c).est.mode ≠ .blind

theorem correct_cases : (entersBlind s c ∧
      correct c s = evaluate c (raise .estimateBlind (s.modBay c fun b => { b with est := correctedEst s c }))) ∨
    (¬ entersBlind s c ∧ correct c s = evaluate c (s.modBay c fun b => { b with est := correctedEst s c })) := by
  have hmod : s.modEst c (correctRecord (s.bay c).record.config (periodCounts s c)) =
      s.modBay c fun b => { b with est := correctedEst s c } := modBay_congr rfl
  have hbay : (s.modBay c fun b => { b with est := correctedEst s c }).bay c =
      { s.bay c with est := correctedEst s c } := bay_modBay_self
  unfold correct
  dsimp only
  rw [hmod, hbay]
  by_cases h : entersBlind s c
  · exact .inl ⟨h, congrArg (evaluate c) (if_pos h)⟩
  · exact .inr ⟨h, congrArg (evaluate c) (if_neg h)⟩

theorem raise_frame {i : Item} : ∃ items line,
    raise i s = { s with port := { s.port with items := items, line := line } } := by
  unfold raise followLine
  split
  · split <;> exact ⟨_, _, rfl⟩
  · split <;> exact ⟨_, _, rfl⟩
  · exact ⟨_, _, rfl⟩

/-- A correction changes the records of its container, the order list with its counter, and the attention items. -/
theorem correct_frame : correct c s = { s with
    bays := (correct c s).bays, orders := (correct c s).orders, orderCounter := (correct c s).orderCounter
    port := { s.port with items := (correct c s).port.items, line := (correct c s).port.line } } := by
  obtain ⟨-, h⟩ | ⟨-, h⟩ := correct_cases (s := s) (c := c)
  · rw [h]
    obtain ⟨flag, l, n, e⟩ := evaluate_frame
      (s := raise .estimateBlind (s.modBay c fun b => { b with est := correctedEst s c })) (c := c)
    obtain ⟨i, ln, e'⟩ := raise_frame (i := .estimateBlind)
      (s := s.modBay c fun b => { b with est := correctedEst s c })
    rw [e, e']
    rfl
  · rw [h]
    obtain ⟨flag, l, n, e⟩ := evaluate_frame (s := s.modBay c fun b => { b with est := correctedEst s c }) (c := c)
    rw [e]
    rfl

theorem bay_correct_self : (correct c s).bay c = { s.bay c with est :=
    { correctedEst s c with closeFlag := ((correct c s).bay c).est.closeFlag } } := by
  obtain ⟨-, h⟩ | ⟨-, h⟩ := correct_cases (s := s) (c := c)
  · rw [h, bay_evaluate_self, bay_raise, bay_modBay_self]
  · rw [h, bay_evaluate_self, bay_modBay_self]

theorem bay_correct_ne (h : d ≠ c) : (correct c s).bay d = s.bay d := by
  obtain ⟨-, e⟩ | ⟨-, e⟩ := correct_cases (s := s) (c := c)
  · rw [e, bay_evaluate_ne h, bay_raise, bay_modBay_ne h]
  · rw [e, bay_evaluate_ne h, bay_modBay_ne h]

theorem getLsbD_correct {j : Nat} (hj : j < 10) : (correct c s).port.items.getLsbD j = true ↔
    s.port.items.getLsbD j = true ∨ j = 3 ∧ entersBlind s c := by
  obtain ⟨hb, e⟩ | ⟨hb, e⟩ := correct_cases (s := s) (c := c)
  · rw [e, evaluate_eq]
    have h := getLsbD_raise (s := s.modBay c fun b => { b with est := correctedEst s c }) (i := .estimateBlind) hj
    rw [Bool.eq_iff_iff, Bool.or_eq_true, decide_eq_true_iff] at h
    exact h.trans (or_congr_right (and_iff_left hb).symm)
  · rw [e, evaluate_eq]
    exact (or_iff_left fun h => hb h.2).symm

/-! ## A period tick -/

/-- The corrections of some containers one after another. -/
def corrections (l : List Box) (s : State) : State :=
  l.foldl (fun t c => correct c t) s

theorem corrections_concat {l : List Box} : corrections (l ++ [c]) s = correct c (corrections l s) := by
  rw [corrections, List.foldl_append]
  rfl

/-- What the corrections of distinct containers leave: each container's record once corrected, but for the close flag. -/
theorem corrections_spec (l : List Box) (hl : l.Nodup) (s : State) :
    corrections l s = { s with
      bays := (corrections l s).bays, orders := (corrections l s).orders
      orderCounter := (corrections l s).orderCounter
      port := { s.port with items := (corrections l s).port.items, line := (corrections l s).port.line } } ∧
    (∀ c, (corrections l s).bay c = if c ∈ l then { s.bay c with est :=
        { correctedEst s c with closeFlag := ((corrections l s).bay c).est.closeFlag } } else s.bay c) ∧
    ∀ j < 10, (corrections l s).port.items.getLsbD j = true ↔
      s.port.items.getLsbD j = true ∨ j = 3 ∧ ∃ c ∈ l, entersBlind s c := by
  induction l using List.reverseRecOn with
  | nil => exact ⟨rfl, fun c => (if_neg List.not_mem_nil).symm, fun j _ => by simp [corrections]⟩
  | append_singleton l c ih =>
    obtain ⟨hframe, hbays, hitems⟩ := ih (List.nodup_append.1 hl).1
    have hc : c ∉ l := fun h => (List.nodup_append.1 hl).2.2 c h c (List.mem_singleton_self c) rfl
    have hbay : (corrections l s).bay c = s.bay c := (hbays c).trans (if_neg hc)
    have hbus : (corrections l s).bus = s.bus := by rw [hframe]
    have hest : correctedEst (corrections l s) c = correctedEst s c := by
      rw [correctedEst, correctedEst, periodCounts, periodCounts, hbay, hbus]
    have hblind : entersBlind (corrections l s) c ↔ entersBlind s c := by
      rw [entersBlind, entersBlind, hest, hbay]
    rw [corrections_concat]
    refine ⟨?_, fun d => ?_, fun j hj => ?_⟩
    · refine correct_frame.trans ?_
      rw [hframe]
    · by_cases hd : d = c
      · subst hd
        rw [if_pos (List.mem_append_right l (List.mem_singleton_self d))]
        refine bay_correct_self.trans ?_
        rw [hest, hbay]
      · rw [bay_correct_ne hd]
        exact (hbays d).trans (if_congr (by simp [hd]) rfl rfl)
    · rw [getLsbD_correct hj, hitems j hj, hblind, or_assoc, ← and_or_left]
      refine or_congr_right (and_congr_right fun _ => ?_)
      simp only [List.mem_append, List.mem_singleton, or_and_right, exists_or, exists_eq_left]

/-- The containers a period tick corrects. -/
def startedBoxes (s : State) : List Box :=
  allBoxes.filter fun c => (s.bay c).record.started

theorem mem_startedBoxes : c ∈ startedBoxes s ↔ (s.bay c).record.started = true := by
  simp [startedBoxes, allBoxes]

theorem started_correct : ((correct c s).bay d).record.started = (s.bay d).record.started := by
  by_cases hd : d = c
  · subst hd
    rw [bay_correct_self]
  · rw [bay_correct_ne hd]

/-- No correction starts or retires a container. -/
theorem periodTick_eq : periodTick s = corrections (startedBoxes s) s := by
  have hfold (l : List Box) (t : State) (h : ∀ c, (t.bay c).record.started = (s.bay c).record.started) :
      l.foldl (fun t c => if (t.bay c).record.started then correct c t else t) t =
        l.foldl (fun t c => if (s.bay c).record.started then correct c t else t) t := by
    induction l generalizing t with
    | nil => rfl
    | cons c l ih =>
      rw [List.foldl_cons, List.foldl_cons, h c]
      refine ih _ fun d => ?_
      split
      · rw [started_correct, h d]
      · exact h d
  exact (hfold allBoxes s fun c => rfl).trans List.foldl_filter.symm

/-- A rollover at a minute tick renews the allowances by the plans in force. -/
theorem minuteTicks_cases (u : State) (hu : u = { s with clock := nextMinute s.clock }) :
    (isPeriodTick u = true ∧ minuteTicks s = { corrections (startedBoxes s) u with
      cards := if isRolloverTick u then s.cards.map fun k => { k with remaining := s.settings.plans[k.plan] }
        else s.cards }) ∨
    (isPeriodTick u = false ∧ minuteTicks s = { u with
      cards := if isRolloverTick u then s.cards.map fun k => { k with remaining := s.settings.plans[k.plan] }
        else s.cards }) := by
  subst hu
  unfold minuteTicks
  dsimp only
  generalize hu : ({ s with clock := nextMinute s.clock } : State) = u
  have hnodup : (startedBoxes s).Nodup := (List.nodup_finRange 32).filter _
  cases hp : isPeriodTick u with
  | true =>
    refine .inl ⟨rfl, ?_⟩
    rw [if_pos rfl, periodTick_eq]
    obtain ⟨hframe, -, -⟩ := corrections_spec (startedBoxes s) hnodup u
    have hstarted : startedBoxes u = startedBoxes s := by rw [← hu]; rfl
    rw [hstarted]
    have hcards : (corrections (startedBoxes s) u).cards = s.cards := by rw [hframe, ← hu]
    have hsettings : (corrections (startedBoxes s) u).settings = s.settings := by rw [hframe, ← hu]
    split
    · simp only [rollover, planValue, hcards, hsettings]
    · exact hcards ▸ rfl
  | false =>
    refine .inr ⟨rfl, ?_⟩
    subst hu
    split
    · rfl
    · rfl

theorem isPeriodTick_iff {u : State} :
    isPeriodTick u = true ↔ u.clock.set = true ∧ u.clock.minute % u.settings.period = 0 := by
  rw [isPeriodTick, Bool.and_eq_true, beq_iff_eq]

theorem isRolloverTick_iff {u : State} :
    isRolloverTick u = true ↔ u.clock.set = true ∧ u.clock.minute = u.settings.rollover := by
  rw [isRolloverTick, Bool.and_eq_true, beq_iff_eq]

/-- A container enters Blind in a period tick where its record before and after says so. -/
theorem exists_entersBlind_iff {u : State} (h : ∀ c, t.bay c = if c ∈ startedBoxes s then { u.bay c with est :=
      { correctedEst u c with closeFlag := (t.bay c).est.closeFlag } } else u.bay c) :
    (∃ c ∈ startedBoxes s, entersBlind u c) ↔ ∃ c, (u.bay c).est.mode ≠ .blind ∧ (t.bay c).est.mode = .blind := by
  refine exists_congr fun c => ?_
  rw [h c]
  by_cases hc : c ∈ startedBoxes s
  · simp [hc, entersBlind, and_comm]
  · simp [hc]

/-- Settles O10: the corrections of a period tick by induction over the started containers. -/
theorem minuteTickMovesTheClock : Obligations.MinuteTickMovesTheClock := by
  intro s
  refine ⟨minuteTicks s, rfl, ?_⟩
  generalize hu : ({ s with clock := nextMinute s.clock } : State) = u
  have hset : u.clock.set = s.clock.set := by
    rw [← hu]
    change (nextMinute s.clock).set = _
    unfold nextMinute
    split <;> rfl
  have hsettings : u.settings = s.settings := by rw [← hu]
  have hroll : isRolloverTick u = true ↔ s.clock.set = true ∧ u.clock.minute = s.settings.rollover := by
    rw [isRolloverTick_iff, hset, hsettings]
  have hperiod : isPeriodTick u = true ↔ s.clock.set = true ∧ u.clock.minute % s.settings.period = 0 := by
    rw [isPeriodTick_iff, hset, hsettings]
  have hclock : nextMinute s.clock = u.clock := by rw [← hu]
  obtain ⟨hp, ht⟩ | ⟨hp, ht⟩ := minuteTicks_cases u hu.symm
  · obtain ⟨hframe, hbays, hitems⟩ :=
      corrections_spec (startedBoxes s) ((List.nodup_finRange 32).filter _) u
    have hclock' : (corrections (startedBoxes s) u).clock = u.clock := by rw [hframe]
    have hbays' := fun c => (hbays c).trans (if_congr mem_startedBoxes rfl rfl)
    rw [ht]
    refine ⟨?_, ?_, ?_, fun _ => ⟨?_, ?_⟩, fun i => ?_, fun h => absurd (hperiod.1 hp) ?_⟩
    · rw [hframe, ← hu]
    · exact hclock'.trans hclock.symm
    · exact if_congr (hroll.trans (by rw [← hclock'])) rfl rfl
    · intro ticked
      have hticked : ticked = fun v c => correct c v := by
        funext v c
        have hmod : v.modEst c (correctRecord (v.bay c).record.config (periodCounts v c)) =
            v.modBay c fun b => { b with est := correctedEst v c } := modBay_congr rfl
        unfold correct
        dsimp only
        rw [hmod, bay_modBay_self]
        simp only [correctedEst, periodCounts_eq]
        rfl
      rw [hticked, hclock']
      have hu' : u = { s with clock := u.clock } := by rw [← hu]
      refine Eq.trans ?_ (congrArg (corrections (startedBoxes s)) hu')
      rw [hframe, ← hu]
    · intro c
      refine (hbays' c).trans ?_
      subst hu
      simp only [correctedEst, periodCounts_eq]
      rfl
    · rw [Bool.eq_iff_iff, Bool.or_eq_true, decide_eq_true_iff]
      refine (hitems i i.isLt).trans ?_
      rw [exists_entersBlind_iff hbays]
      subst hu
      exact or_congr_right (and_congr_left fun _ => ⟨fun h => Fin.ext h, fun h => h ▸ rfl⟩)
    · rwa [← hclock']
  · have hnot : ¬ (s.clock.set = true ∧ u.clock.minute % s.settings.period = 0) := by
      rw [← hperiod, hp]
      exact Bool.false_ne_true
    rw [ht]
    subst hu
    refine ⟨rfl, rfl, if_congr hroll rfl rfl, fun h => absurd h hnot, fun i => ?_, fun _ => ⟨rfl, rfl, rfl, rfl⟩⟩
    have hnone : ¬ ∃ c, (s.bay c).est.mode ≠ .blind ∧ (s.bay c).est.mode = .blind := fun ⟨_, h, h'⟩ => h h'
    rw [Bool.eq_iff_iff, Bool.or_eq_true, decide_eq_true_iff]
    exact (or_iff_left fun h => hnone h.2).symm

end Sys2Proof.Machine
end

section
/-! The end of a hatch cycle, the timers of a container, hatch reports and drum turns (R50 to R61). -/

namespace Sys2Proof.Machine

open Sys2Proof

variable {s t : State} {c d : Box}

/-! ## The end of a cycle -/

theorem isPolling_eq_false_iff {b : Bus} : isPolling b = false ↔ b.state = .quiet ∨ b.state = .blocked := by
  unfold isPolling
  cases b.state <;> simp

theorem startedDemand_eq {lost : Bool} {b : Bus} {len : Nat} {x : Option CloseTimer} :
    startedDemand lost (isPolling b) len x =
      match x with
      | some d => some d
      | none => if lost = true ∨ b.state = .quiet ∨ b.state = .blocked then some .held else some (.running len) := by
  cases x with
  | some d => rfl
  | none =>
    refine if_congr ?_ rfl rfl
    rw [Bool.or_eq_true, Bool.not_eq_true', isPolling_eq_false_iff]

theorem endedDemand_eq {cause : EndCause} {lost : Bool} {b : Bus} {len : Nat} {x : Option CloseTimer} :
    endedDemand cause lost (isPolling b) len x =
      if cause = .closedReport ∨ cause = .resetEnd then x
      else match x with
        | some d => some d
        | none => if lost = true ∨ b.state = .quiet ∨ b.state = .blocked then some .held else some (.running len) := by
  cases cause with
  | closedReport => rfl
  | resetEnd => rfl
  | forcedEnd => exact startedDemand_eq
  | other => exact startedDemand_eq

theorem endQuiescence_eq {cause : EndCause} {h : Hold} : endQuiescence cause h =
    if h.service = true ∨ h.emptying ≠ none
      then { h with tQ := none, forced := h.forced || decide (cause = .forcedEnd) } else h := by
  refine (if_congr requested_iff ?_ rfl : _)
  cases cause <;> rfl

theorem bay_cycleEnded {o : CycleOutcome} {cause : EndCause} {k : Cycle} : (cycleEnded c o cause k s).bay d =
    if d = c then endedBay cause (isPolling s.bus) s.settings.tCl ((volumeAtEnd c o k s).bay c).est (s.bay c)
    else s.bay d := by
  have hset : (cycleEnded c o cause k s).bay d = _ := bay_modBay (s := s) (c := c) (d := d)
    (f := endedBay cause (isPolling s.bus) s.settings.tCl ((volumeAtEnd c o k s).bay c).est)
  exact hset

/-- A cycle's end takes a Draining bus to Quiet where no other container has a cycle (R36). -/
theorem quiets_iff {o : CycleOutcome} {cause : EndCause} {k : Cycle} :
    ((cycleEnded c o cause k s).bus.state = .draining ∧ (activeBoxes (cycleEnded c o cause k s)).isEmpty = true) ↔
      s.bus.state = .draining ∧ ∀ d, d ≠ c → (s.bay d).hatch.cycle = none := by
  rw [activeBoxes_isEmpty]
  refine and_congr_right fun _ => forall_congr' fun d => ?_
  rw [bay_cycleEnded]
  by_cases hd : d = c
  · simp [hd, endedBay]
  · simp [hd]

/-- The end of a cycle where the bus stays, and where a Draining bus becomes Quiet. -/
theorem endCycle_cases {o : CycleOutcome} {cause : EndCause} {k : Cycle} (h : (s.bay c).hatch.cycle = some k) :
    ((s.bus.state = .draining ∧ ∀ d, d ≠ c → (s.bay d).hatch.cycle = none) ∧
      endCycle c o cause s = enterQuiet (cycleEnded c o cause k s)) ∨
    (¬ (s.bus.state = .draining ∧ ∀ d, d ≠ c → (s.bay d).hatch.cycle = none) ∧
      endCycle c o cause s = cycleEnded c o cause k s) := by
  rw [endCycle_eq h, ← quiets_iff (o := o) (cause := cause) (k := k)]
  by_cases hq : (cycleEnded c o cause k s).bus.state = .draining ∧
      (activeBoxes (cycleEnded c o cause k s)).isEmpty = true
  · exact .inl ⟨hq, if_pos hq⟩
  · exact .inr ⟨hq, if_neg hq⟩

/-- The records of a container at the end of its cycle, case by case. -/
theorem endedBay_eq {cause : EndCause} {bus : Bus} {len : Nat} {e : Estimate} {b : Bay} :
    endedBay cause (isPolling bus) len e b = { b with
      hatch := { b.hatch with
        cycle := none, tOw := none, tDep := none
        demand :=
          if cause = .closedReport ∨ cause = .resetEnd then b.hatch.demand
          else match b.hatch.demand with
            | some d => some d
            | none =>
              if b.column.lost = true ∨ bus.state = .quiet ∨ bus.state = .blocked then some .held
              else some (.running len) }
      est := e
      hold := if b.hold.service = true ∨ b.hold.emptying ≠ none
        then { b.hold with tQ := none, forced := b.hold.forced || decide (cause = .forcedEnd) } else b.hold } := by
  rw [endedBay, endedDemand_eq, endQuiescence_eq]

/-- Settles O43: the state of `cycleEnded`, and the entry to Quiet where no cycle is left on a Draining bus. -/
theorem cycleEndsSettleAndLog : Obligations.CycleEndsSettleAndLog := by
  intro s c o cause
  refine ⟨endCycle_none, fun k hk => ?_⟩
  intro b t after quiets paused ended
  have hended : endedBay cause (isPolling s.bus) s.settings.tCl (after.bay c).est b = ended := endedBay_eq
  have hpaused : stopPollingBay = paused := rfl
  have hself : (cycleEnded c o cause k s).bay c = ended := (bay_cycleEnded.trans (if_pos rfl)).trans hended
  have hne (d : Box) (hd : d ≠ c) : (cycleEnded c o cause k s).bay d = s.bay d := bay_cycleEnded.trans (if_neg hd)
  obtain ⟨hq, ht⟩ | ⟨hq, ht⟩ := endCycle_cases (o := o) (cause := cause) hk
  · change t = _ at ht
    have hbay (d : Box) : t.bay d = paused ((cycleEnded c o cause k s).bay d) := by rw [ht, bay_enterQuiet, hpaused]
    refine ⟨?_, ?_, fun d hd => ?_⟩
    · rw [if_pos hq, ht, enterQuiet_eq]
      rfl
    · rw [if_pos hq, hbay, hself]
    · rw [if_pos hq, hbay, hne d hd]
  · change t = _ at ht
    refine ⟨?_, ?_, fun d hd => ?_⟩
    · rw [if_neg hq, ht]
      rfl
    · rw [if_neg hq, ht, hself]
    · rw [if_neg hq, ht, hne d hd]

/-! ## The timers of a container -/

theorem setHatchJam_eq : setHatchJam c s = if (s.bay c).record.fault = .none
    then raise .containerFault (s.modBay c fun b => { b with record := { b.record with fault := .hatchJam } })
    else s :=
  rfl

theorem cycle_setHatchJam : ((setHatchJam c s).bay c).hatch.cycle = (s.bay c).hatch.cycle := by
  rw [setHatchJam_eq]
  split
  · rw [bay_raise, bay_modBay_self]
  · rfl

/-- A HatchJam request ends the cycle there is (R56). -/
theorem requestHatchJam_some {k : Cycle} (h : (s.bay c).hatch.cycle = some k) :
    requestHatchJam c s = endCycle c (outcomeBy k .noDeposit) .other (setHatchJam c s) := by
  unfold requestHatchJam
  dsimp only
  rw [cycle_setHatchJam, h]

theorem requestHatchJam_none (h : (s.bay c).hatch.cycle = none) : requestHatchJam c s = setHatchJam c s := by
  unfold requestHatchJam
  dsimp only
  rw [cycle_setHatchJam, h]

theorem forcedEnd_none (h : (s.bay c).hatch.cycle = none) : forcedEnd c s = s := by
  rw [forcedEnd, h]

theorem forcedEnd_some {k : Cycle} (h : (s.bay c).hatch.cycle = some k) :
    forcedEnd c s = endCycle c (outcomeBy k .cut) .forcedEnd s := by
  rw [forcedEnd, h]

theorem closeTimerExpires_running {n : Nat} (h : (s.bay c).hatch.demand = some (.running n)) :
    closeTimerExpires c s = requestHatchJam c (s.modHatch c fun h => { h with demand := some .spent }) := by
  rw [closeTimerExpires, h]

theorem closeTimerExpires_stopped (h : ∀ n, (s.bay c).hatch.demand ≠ some (.running n)) :
    closeTimerExpires c s = s := by
  unfold closeTimerExpires
  split
  next n hn => exact absurd hn (h n)
  next => rfl
  next => rfl
  next => rfl

theorem ite_isSome {α β : Type} {o : Option α} {x y : β} : (if o.isSome = true then x else y) = if o = none then y else x := by
  cases o <;> rfl

/-- Settles O44: each expiry by whether its timer runs. -/
theorem containerTimersExpire : Obligations.ContainerTimersExpire := by
  intro s c
  refine ⟨congrArg _ ite_isSome, congrArg _ ite_isSome, fun n h => congrArg _ (closeTimerExpires_running h),
    fun h => congrArg _ (closeTimerExpires_stopped h), fun h => ?_, fun h => ?_, rfl⟩
  · exact congrArg _ (ite_isSome.trans (if_pos h))
  · have hexec : exec (.tQExpiry c) s = .next (forcedEnd c (s.modHold c fun h => { h with tQ := none })) :=
      congrArg _ (ite_isSome.trans (if_neg h))
    have hcycle : ((s.modHold c fun h => { h with tQ := none }).bay c).hatch.cycle = (s.bay c).hatch.cycle := by simp
    rw [hexec]
    exact ⟨fun hk => congrArg _ (forcedEnd_none (hcycle.trans hk)),
      fun k hk => congrArg _ (forcedEnd_some (hcycle.trans hk))⟩

/-! ## Hatch reports -/

/-- Settles O38: each report by the phase of the cycle. -/
theorem hatchReportsMovePhases : Obligations.HatchReportsMovePhases := by
  intro s c
  refine ⟨rfl, rfl, fun h => ⟨?_, ?_, requestHatchJam_none h⟩, fun k hk => ⟨?_, ?_, requestHatchJam_some hk⟩⟩
  · rw [hatchReport, closedEnds, h]
    rfl
  · rw [hatchReport, openedReport, h]
  · rw [hatchReport, closedEnds, hk]
    cases hp : k.phase <;> simp only [hp] <;> rfl
  · rw [hatchReport, openedReport, hk]
    rfl

/-! ## Drum turns -/

/-- The hatch record after one turn (R51, R53, R54). -/
def turnedHatch (lost polling : Bool) (len : Nat) (h : Hatch) : Hatch :=
  match h.cycle with
  | none => { h with stray := bump 65535 h.stray }
  | some k =>
    if k.phase = .deposited then { h with stray := bump 65535 h.stray } else depositedHatch k lost polling len h

theorem strayTurn_eq : strayTurn c s = (depositVolume c s).modHatch c fun h => { h with stray := bump 65535 h.stray } :=
  rfl

theorem takeTurn_of_some {k : Cycle} (hk : (s.bay c).hatch.cycle = some k) (hp : k.phase ≠ .deposited) :
    takeTurn c s = confirmDeposit c k s := by
  rw [takeTurn, hk]
  exact if_neg hp

theorem takeTurn_of_settled (h : ∀ k, (s.bay c).hatch.cycle = some k → k.phase = .deposited) :
    takeTurn c s = strayTurn c s := by
  unfold takeTurn
  split
  next => rfl
  next k hk => exact if_pos (h k hk)

theorem modHatch_congr {f g : Hatch → Hatch} (h : f (s.bay c).hatch = g (s.bay c).hatch) :
    s.modHatch c f = s.modHatch c g :=
  modBay_congr (f := fun b => { b with hatch := f b.hatch }) (g := fun b => { b with hatch := g b.hatch }) (by simp only [h])

theorem hatch_depositVolume : ((depositVolume c s).bay c).hatch = (s.bay c).hatch := by
  obtain ⟨e, he⟩ := bay_depositVolume_self (s := s) (c := c)
  rw [he]

/-- One turn: a deposit volume with its evaluation, and the hatch record of the turn. -/
theorem takeTurn_eq : takeTurn c s = (depositVolume c s).modHatch c
    (turnedHatch (s.bay c).column.lost (isPolling s.bus) s.settings.tCl) := by
  unfold takeTurn
  split
  next h =>
    rw [strayTurn_eq]
    refine modHatch_congr ?_
    rw [turnedHatch, hatch_depositVolume, h]
  next k h =>
    split
    next hp =>
      rw [strayTurn_eq]
      refine modHatch_congr ?_
      rw [turnedHatch, hatch_depositVolume, h]
      simp only [if_pos hp]
    next hp =>
      rw [confirmDeposit_eq]
      refine modHatch_congr ?_
      rw [turnedHatch, hatch_depositVolume, h]
      simp only [if_neg hp]

/-- Deposit volumes neither read nor move the close flag. -/
theorem iterate_addVolume_closeFlag {k : ContainerConfig} {f g : Bool} : ∀ (n : Nat) (e : Estimate),
    ({ (addVolume k)^[n] { e with closeFlag := f } with closeFlag := g } : Estimate) =
      { (addVolume k)^[n] e with closeFlag := g }
  | 0, _ => rfl
  | n + 1, e => iterate_addVolume_closeFlag n (addVolume k e)

/-- The estimate record of a container and its hatch record after some turns, the close flag as the evaluations leave it. -/
theorem takeTurns_spec : ∀ (n : Nat) (s : State),
    takeTurns c n s = { s with
      bays := (takeTurns c n s).bays, orders := (takeTurns c n s).orders
      orderCounter := (takeTurns c n s).orderCounter } ∧
    (∀ d, d ≠ c → (takeTurns c n s).bay d = s.bay d) ∧
    (takeTurns c n s).bay c = { s.bay c with
      est := { (addVolume (s.bay c).record.config)^[n] (s.bay c).est with
        closeFlag := ((takeTurns c n s).bay c).est.closeFlag }
      hatch := (turnedHatch (s.bay c).column.lost (isPolling s.bus) s.settings.tCl)^[n] (s.bay c).hatch }
  | 0, s => ⟨rfl, fun _ _ => rfl, rfl⟩
  | n + 1, s => by
    obtain ⟨flag, l, m, e⟩ := depositVolume_frame (s := s) (c := c)
    have hturn : takeTurn c s = { s with
        bays := (s.modBay c fun b => { b with
          est := { addVolume (s.bay c).record.config b.est with closeFlag := flag }
          hatch := turnedHatch (s.bay c).column.lost (isPolling s.bus) s.settings.tCl b.hatch }).bays
        orders := l, orderCounter := m } := by
      rw [takeTurn_eq, e]
      simp [State.modBay, State.bay]
    have hbay (d : Box) : (takeTurn c s).bay d = (s.modBay c fun b => { b with
          est := { addVolume (s.bay c).record.config b.est with closeFlag := flag }
          hatch := turnedHatch (s.bay c).column.lost (isPolling s.bus) s.settings.tCl b.hatch }).bay d :=
      bay_of_bays_eq (by rw [hturn])
    obtain ⟨hframe, hne, hself⟩ := takeTurns_spec n (takeTurn c s)
    have hbus : (takeTurn c s).bus = s.bus := bus_takeTurn
    have hsettings : (takeTurn c s).settings = s.settings := by rw [hturn]
    rw [hturn] at hframe
    have hstep : takeTurns c (n + 1) s = takeTurns c n (takeTurn c s) := rfl
    rw [hstep]
    rw [hbay c, bay_modBay_self, hbus, hsettings] at hself
    rw [← hturn] at hframe
    generalize takeTurns c n (takeTurn c s) = u at hframe hne hself ⊢
    refine ⟨?_, fun d hd => ?_, ?_⟩
    · rw [hturn] at hframe
      exact hframe
    · exact (hne d hd).trans ((hbay d).trans (bay_modBay_ne hd))
    · refine hself.trans ?_
      have hvolume : ({ (addVolume (s.bay c).record.config)^[n]
          { addVolume (s.bay c).record.config (s.bay c).est with closeFlag := flag } with
          closeFlag := (u.bay c).est.closeFlag } : Estimate) = _ := iterate_addVolume_closeFlag n _
      rw [Function.iterate_succ_apply, Function.iterate_succ_apply, ← hvolume]

/-- Settled turns are stray turns, counted up to the limit (R54). -/
theorem iterate_turnedHatch_settled {lost polling : Bool} {len : Nat} {h : Hatch}
    (hk : ∀ k, h.cycle = some k → k.phase = .deposited) (hs : h.stray ≤ 65535) :
    ∀ n, (turnedHatch lost polling len)^[n] h = { h with stray := min 65535 (h.stray + n) }
  | 0 => by rw [Function.iterate_zero_apply, Nat.add_zero, Nat.min_eq_right hs]
  | n + 1 => by
    rw [Function.iterate_succ_apply', iterate_turnedHatch_settled hk hs n]
    have hturn {x : Hatch} (hx : x.cycle = h.cycle) :
        turnedHatch lost polling len x = { x with stray := bump 65535 x.stray } := by
      unfold turnedHatch
      rw [hx]
      split
      next => rfl
      next k hc => exact if_pos (hk k hc)
    refine (hturn (x := { h with stray := min 65535 (h.stray + n) }) rfl).trans ?_
    simp only [bump, Hatch.mk.injEq, true_and]
    omega

/-- The first turn of a cycle still to be deposited is its deposit, the rest are stray (R53, R54). -/
theorem iterate_turnedHatch_deposit {lost polling : Bool} {len : Nat} {h : Hatch} {k : Cycle}
    (hk : h.cycle = some k) (hp : k.phase ≠ .deposited) (hs : h.stray ≤ 65535) (n : Nat) :
    (turnedHatch lost polling len)^[n + 1] h =
      { depositedHatch k lost polling len h with stray := min 65535 (h.stray + n) } := by
  have hfirst : turnedHatch lost polling len h = depositedHatch k lost polling len h := by
    unfold turnedHatch
    rw [hk]
    exact if_neg hp
  rw [Function.iterate_succ_apply, hfirst]
  refine iterate_turnedHatch_settled (h := depositedHatch k lost polling len h) (fun k' hk' => ?_) hs n
  obtain rfl := Option.some.inj hk'
  rfl

/-- Settles O37: the count of the turns by arithmetic, their effect turn by turn. -/
theorem drumTurnsAreTaken : Obligations.DrumTurnsAreTaken := by
  refine ⟨fun n => ⟨rfl, rfl⟩, fun b n hb hn => ⟨rfl, (n + 256 - b) % 256, by omega, by omega, rfl⟩,
    fun s c => ⟨rfl, fun n => rfl, fun k hk hp => (takeTurn_of_some hk hp).trans ?_,
      fun h => (takeTurn_of_settled h).trans ?_⟩, fun s c n hn hs => ?_⟩
  · unfold confirmDeposit
    dsimp only
    generalize hu : (s.modHatch c fun h => { h with
      cycle := some { k with phase := .deposited, confirmed := true }, tOw := none, tDep := none }) = u
    have hhatch := hatch_depositVolume (s := u) (c := c)
    have hcolumn : ((depositVolume c u).bay c).column = (s.bay c).column := by
      obtain ⟨e, he⟩ := bay_depositVolume_self (s := u) (c := c)
      rw [he, ← hu]
      simp
    have hbus : (depositVolume c u).bus = s.bus := by
      rw [← hu]
      simp
    have hsettings : (depositVolume c u).settings = s.settings := by
      obtain ⟨_, _, _, e⟩ := depositVolume_frame (s := u) (c := c)
      rw [e, ← hu]
      rfl
    have hdemand : (u.bay c).hatch.demand = (s.bay c).hatch.demand := by
      rw [← hu]
      simp
    rw [startDemand_eq, hbus, hsettings]
    have hu' : u = s.modBay c fun b => { b with hatch := { b.hatch with
      cycle := some { k with phase := .deposited, confirmed := true }, tOw := none, tDep := none } } := hu.symm
    rw [← hu']
    refine modBay_congr ?_
    rw [hhatch, hdemand, hcolumn, startedDemand_eq] <;> rfl
  · rw [strayTurn_eq, modHatch_eq_modBay]
    refine modBay_congr ?_
    rw [hatch_depositVolume]
    rfl
  · obtain ⟨hframe, hne, hself⟩ := takeTurns_spec (c := c) n s
    refine ⟨hframe, hne, hself.trans ?_⟩
    obtain ⟨m, rfl⟩ : ∃ m, n = m + 1 := ⟨n - 1, by omega⟩
    by_cases hd : ∃ k ∈ (s.bay c).hatch.cycle, k.phase ≠ .deposited
    · obtain ⟨k, hk, hp⟩ := hd
      rw [iterate_turnedHatch_deposit hk hp hs m, if_pos ⟨k, hk, hp⟩, depositedHatch, startedDemand_eq,
        Option.mem_def.1 hk]
      rfl
    · have hsettled : ∀ k, (s.bay c).hatch.cycle = some k → k.phase = .deposited := fun k hk => by
        by_contra hp
        exact hd ⟨k, hk, hp⟩
      rw [iterate_turnedHatch_settled hsettled hs (m + 1), if_neg hd]

end Sys2Proof.Machine
end

section
/-! The answers to a presentation, and the end of a slot (R24 to R32, R72 to R83). -/

namespace Sys2Proof.Machine

open Sys2Proof

variable {s t : State} {c d : Box}

/-! ## Presentations -/

/-- A presentation restarts a running T_inact and ends the denial display before it is decided (R40, R80). -/
def presented (c : Box) (s : State) : State :=
  { s with
    bays := (s.modBay c fun b => { b with display := none }).bays
    bus := if s.bus.state = .woken then { s.bus with tInact := some s.settings.tInact } else s.bus }

theorem bay_presented_self : (presented c s).bay c = { s.bay c with display := none } :=
  bay_modBay_self (s := s) (f := fun b => { b with display := none })

theorem state_presented : (presented c s).bus.state = s.bus.state := by
  simp only [presented]
  split <;> rfl

theorem newPresentation_eq {card : Nat} : newPresentation c card s =
    (decidePresentation c card (drainingMark s.bus) (presented c s)).2.modColumn c fun k =>
      { k with answer := some ⟨card, (decidePresentation c card (drainingMark s.bus) (presented c s)).1⟩ } := by
  have hp : (if s.bus.state = .woken then { s with bus := { s.bus with tInact := some s.settings.tInact } }
      else s).setDisplay c none = presented c s := by
    simp only [presented]
    split <;> rfl
  have hmark : drainingMark (presented c s).bus = drainingMark s.bus := by
    rw [drainingMark, drainingMark, state_presented]
  unfold newPresentation
  dsimp only
  rw [hp, hmark]

/-- The checks read no display and no T_inact. -/
theorem denialOfKnown_presented {k : CardRecord} {draining : Bool} :
    denialOfKnown (presented c s) c k draining = denialOfKnown s c k draining := by
  unfold denialOfKnown
  rw [bay_presented_self]
  rfl

/-- A presentation is denied by the reason of the first check that fails, the card sighted where its status denies it, or
granted (R72, R77, R78, R79). -/
theorem decidePresentation_cases {card : Nat} {draining : Bool} :
    (∃ r, (decidePresentation c card draining s).1 = .denied r ∧ (∀ k, s.cardOf card = some k → r ≠ .cardBlocked) ∧
      decidePresentation c card draining (presented c s) = (.denied r, deny c r (presented c s))) ∨
    (∃ k, s.cardOf card = some k ∧ (decidePresentation c card draining s).1 = .denied .cardBlocked ∧
      decidePresentation c card draining (presented c s) =
        (.denied .cardBlocked, sight c k (deny c .cardBlocked (presented c s)))) ∨
    (∃ k, s.cardOf card = some k ∧ (decidePresentation c card draining s).1 = .granted ∧
      decidePresentation c card draining (presented c s) = (.granted, grant c k (presented c s))) := by
  have hcard : (presented c s).cardOf card = s.cardOf card := rfl
  unfold decidePresentation
  rw [hcard]
  cases hk : s.cardOf card with
  | none => exact .inl ⟨_, rfl, by simp, rfl⟩
  | some k =>
    simp only [denialOfKnown_presented]
    cases hd : denialOfKnown s c k draining with
    | none => exact .inr (.inr ⟨k, rfl, rfl, rfl⟩)
    | some r =>
      by_cases hr : r = .cardBlocked
      · subst hr
        exact .inr (.inl ⟨k, rfl, rfl, rfl⟩)
      · refine .inl ⟨r, ?_, fun _ _ => hr, ?_⟩
        · cases r <;> rfl
        · cases r
          case cardBlocked => exact absurd rfl hr
          all_goals rfl

/-- The records of a container after a denied presentation (R83, R6). -/
def deniedBay (a : Answer) (b : Bay) : Bay :=
  { b with
    record := { b.record with tally := bump 65535 b.record.tally }
    column := { b.column with answer := some a }, display := none }

/-- A denial with its answer, the sighting and the items aside (R77, R83). -/
def denied (c : Box) (a : Answer) (r : DenialReason) (s : State) : State :=
  { s with
    bays := s.bays.set c (deniedBay a (s.bay c))
    bus := if s.bus.state = .woken then { s.bus with tInact := some s.settings.tInact } else s.bus
    denials := s.denials.set (reasonIndex r) (bump 65535 s.denials[reasonIndex r]) }

theorem deny_presented {a : Answer} {r : DenialReason} :
    (deny c r (presented c s)).modColumn c (fun k => { k with answer := some a }) = denied c a r s := by
  simp [deny, presented, denied, deniedBay, State.modBay, State.bay, State.modColumn, State.modRecord]

theorem sight_presented {a : Answer} {r : DenialReason} {k : CardRecord} :
    (sight c k (deny c r (presented c s))).modColumn c (fun k => { k with answer := some a }) =
      { denied c a r s with
        sighting := if k.status = .lost then some ⟨k.number, k.household, c, stamp s⟩ else s.sighting
        port := if k.status = .lost then (raise .lostCardSeen s).port else s.port } := by
  unfold sight
  split
  · exact congrArg (fun v : State => { v with
      sighting := some ⟨k.number, k.household, c, stamp s⟩, port := (raise .lostCardSeen s).port }) deny_presented
  · exact deny_presented

theorem grant_presented {a : Answer} {k : CardRecord} :
    (grant c k (presented c s)).modColumn c (fun k => { k with answer := some a }) =
      { s with
        bays := s.bays.set c
          { s.bay c with
            column := { (s.bay c).column with answer := some a }, display := none
            hatch := openCycle k (s.bay c).record.config.charge s.settings.tOw (stamp s) (s.bay c).hatch }
        bus := if s.bus.state = .woken then { s.bus with tInact := some s.settings.tInact } else s.bus
        openCards := s.openCards ++ [k.number], reserved := s.reserved + 1
        cards := s.cards.map fun x => if x.number = k.number
          then { x with remaining := x.remaining - (s.bay c).record.config.charge } else x } := by
  simp [grant, presented, State.modBay, State.bay, State.modColumn, State.modHatch, reserve, State.modCard, openCycle, stamp]

/-- A presentation denied, denied with the card's status read, and granted. -/
theorem newPresentation_cases {card : Nat} :
    (∃ r, (decidePresentation c card (drainingMark s.bus) s).1 = .denied r ∧
      (∀ k, s.cardOf card = some k → r ≠ .cardBlocked) ∧
      newPresentation c card s = denied c ⟨card, .denied r⟩ r s) ∨
    (∃ k, s.cardOf card = some k ∧ (decidePresentation c card (drainingMark s.bus) s).1 = .denied .cardBlocked ∧
      newPresentation c card s = { denied c ⟨card, .denied .cardBlocked⟩ .cardBlocked s with
        sighting := if k.status = .lost then some ⟨k.number, k.household, c, stamp s⟩ else s.sighting
        port := if k.status = .lost then (raise .lostCardSeen s).port else s.port }) ∨
    (∃ k, s.cardOf card = some k ∧ (decidePresentation c card (drainingMark s.bus) s).1 = .granted ∧
      newPresentation c card s = { s with
        bays := s.bays.set c
          { s.bay c with
            column := { (s.bay c).column with answer := some ⟨card, .granted⟩ }, display := none
            hatch := openCycle k (s.bay c).record.config.charge s.settings.tOw (stamp s) (s.bay c).hatch }
        bus := if s.bus.state = .woken then { s.bus with tInact := some s.settings.tInact } else s.bus
        openCards := s.openCards ++ [k.number], reserved := s.reserved + 1
        cards := s.cards.map fun x => if x.number = k.number
          then { x with remaining := x.remaining - (s.bay c).record.config.charge } else x }) := by
  rw [newPresentation_eq]
  obtain ⟨r, hcode, hr, e⟩ | ⟨k, hk, hcode, e⟩ | ⟨k, hk, hcode, e⟩ :=
    decidePresentation_cases (s := s) (c := c) (card := card) (draining := drainingMark s.bus)
  · exact .inl ⟨r, hcode, hr, by rw [e]; exact deny_presented⟩
  · exact .inr (.inl ⟨k, hk, hcode, by rw [e]; exact sight_presented⟩)
  · exact .inr (.inr ⟨k, hk, hcode, by rw [e]; exact grant_presented⟩)

/-- The reasons in the order of their counters (R72, R83). -/
def reasonAt (i : Fin 11) : DenialReason :=
  #v[.unknownCard, .cardBlocked, .wrongCluster, .wrongFraction, .outOfService, .containerFull, .curfew, .busy,
    .cardInUse, .noAllowance, .logFull][i]

theorem reasonAt_reasonIndex {r : DenialReason} : reasonAt (reasonIndex r) = r := by
  cases r <;> rfl

/-- Settles O40: the presentation by its three outcomes. -/
theorem grantsAndDenials : Obligations.GrantsAndDenials := by
  refine ⟨fun q r h => ?_, fun s c card => ?_⟩
  · rw [← reasonAt_reasonIndex (r := q), h, reasonAt_reasonIndex]
  intro b draining code t bus
  have hbay (x : Bay) (v : State) (h : v.bays = s.bays.set c x) : v.bay c = x := by simp [State.bay, h]
  obtain ⟨r, hcode, hr, ht⟩ | ⟨k, hk, hcode, ht⟩ | ⟨k, hk, hcode, ht⟩ := newPresentation_cases (s := s) (c := c) (card := card)
  · change code = _ at hcode
    change t = _ at ht
    rw [hcode, ht]
    refine ⟨congrArg Bay.column (hbay (deniedBay ⟨card, .denied r⟩ b) _ rfl), fun q hq => ?_, fun h => by cases h⟩
    obtain rfl := DisplayCode.denied.inj hq
    exact ⟨rfl, fun k hk hr' => absurd hr' (hr k hk), fun _ => ⟨rfl, rfl⟩⟩
  · change code = _ at hcode
    change t = _ at ht
    rw [hcode, ht]
    refine ⟨congrArg Bay.column (hbay (deniedBay ⟨card, .denied .cardBlocked⟩ b) _ rfl), fun q hq => ?_,
      fun h => by cases h⟩
    obtain rfl := DisplayCode.denied.inj hq
    refine ⟨rfl, fun k' hk' _ hlost => ?_, fun h => ?_⟩
    · obtain rfl := Option.some.inj (hk.symm.trans hk')
      exact ⟨if_pos hlost, if_pos hlost⟩
    · exact ⟨if_neg (h k hk rfl), if_neg (h k hk rfl)⟩
  · change code = _ at hcode
    change t = _ at ht
    rw [hcode, ht]
    refine ⟨?_, fun r h => (by cases h), fun _ => ⟨k, hk, rfl⟩⟩
    exact congrArg Bay.column (hbay { b with
      column := { b.column with answer := some ⟨card, .granted⟩ }, display := none
      hatch := openCycle k b.record.config.charge s.settings.tOw (stamp s) b.hatch } _ rfl)

/-! ## What the end of a cycle leaves at a container -/

/-- The records at the end of a cycle are those of the end, or those with polling stopped besides (R36, R37). -/
theorem bay_endCycle_cases {o : CycleOutcome} {cause : EndCause} {k : Cycle} (h : (s.bay c).hatch.cycle = some k) :
    (endCycle c o cause s).bay d = (cycleEnded c o cause k s).bay d ∨
    (endCycle c o cause s).bay d = stopPollingBay ((cycleEnded c o cause k s).bay d) := by
  obtain ⟨-, e⟩ | ⟨-, e⟩ := endCycle_cases (o := o) (cause := cause) h
  · exact .inr (by rw [e, bay_enterQuiet])
  · exact .inl (by rw [e])

theorem record_endCycle {o : CycleOutcome} {cause : EndCause} :
    ((endCycle c o cause s).bay d).record = (s.bay d).record := by
  cases h : (s.bay c).hatch.cycle with
  | none => rw [endCycle_none h]
  | some k =>
    have hended : ((cycleEnded c o cause k s).bay d).record = (s.bay d).record := by
      rw [bay_cycleEnded]
      split
      next hd => rw [hd]; rfl
      next => rfl
    obtain e | e := bay_endCycle_cases (o := o) (cause := cause) (d := d) h
    · rw [e, hended]
    · rw [e]
      exact hended

/-- The end of a cycle leaves every column, but for a pending answer. -/
theorem column_endCycle {o : CycleOutcome} {cause : EndCause} :
    ((endCycle c o cause s).bay d).column = (s.bay d).column ∨
    ((endCycle c o cause s).bay d).column = { (s.bay d).column with answer := none } := by
  cases h : (s.bay c).hatch.cycle with
  | none => exact .inl (by rw [endCycle_none h])
  | some k =>
    have hended : ((cycleEnded c o cause k s).bay d).column = (s.bay d).column := by
      rw [bay_cycleEnded]
      split
      next hd => rw [hd]; rfl
      next => rfl
    obtain e | e := bay_endCycle_cases (o := o) (cause := cause) (d := d) h
    · exact .inl (by rw [e, hended])
    · exact .inr (by rw [e, ← hended]; rfl)

/-- The close demand at a container whose cycle ended. -/
theorem demand_endCycle {o : CycleOutcome} {cause : EndCause} {k : Cycle} (h : (s.bay c).hatch.cycle = some k) :
    let x := endedDemand cause (s.bay c).column.lost (isPolling s.bus) s.settings.tCl (s.bay c).hatch.demand
    ((endCycle c o cause s).bay c).hatch.demand = x ∨ ((endCycle c o cause s).bay c).hatch.demand = x.map holdTimer := by
  obtain e | e := bay_endCycle_cases (o := o) (cause := cause) (d := c) h
  · exact .inl (by rw [e, bay_cycleEnded, if_pos rfl]; rfl)
  · exact .inr (by rw [e, bay_cycleEnded, if_pos rfl]; rfl)

/-- The fields of the state at the end of a cycle that the entry to Quiet leaves. -/
theorem fields_endCycle {o : CycleOutcome} {cause : EndCause} {k : Cycle} (h : (s.bay c).hatch.cycle = some k) :
    endCycle c o cause s = { cycleEnded c o cause k s with
      bays := (endCycle c o cause s).bays, bus := (endCycle c o cause s).bus } := by
  obtain ⟨-, e⟩ | ⟨-, e⟩ := endCycle_cases (o := o) (cause := cause) h
  · rw [e, enterQuiet_eq]
  · rw [e]

/-- The end of a cycle raises no item but LogHigh. -/
theorem getLsbD_endCycle {o : CycleOutcome} {cause : EndCause} {j : Nat} (hj : j < 10) (h1 : j ≠ 1) :
    (endCycle c o cause s).port.items.getLsbD j = s.port.items.getLsbD j := by
  cases h : (s.bay c).hatch.cycle with
  | none => rw [endCycle_none h]
  | some k =>
    rw [fields_endCycle h]
    simp only [cycleEnded]
    split
    · rw [getLsbD_raise hj, itemBit, decide_eq_false h1, Bool.or_false]
    · rfl

/-! ## A slot without a Valid uplink -/

/-- The records of a column marked lost, before its cycle ends (R30, R57). -/
def lostBay (b : Bay) : Bay :=
  { b with
    column := { b.column with lost := true }
    hatch := { b.hatch with demand := b.hatch.demand.map holdTimer }
    record := { b.record with fault := if b.record.fault = .none then .columnLost else b.record.fault } }

/-- A column marked lost with its request of ColumnLost (R30, R10). -/
def lost (c : Box) (s : State) : State :=
  if (s.bay c).record.fault = .none then raise .containerFault (s.modBay c lostBay) else s.modBay c lostBay

theorem markLost_eq : markLost c s = (endCycle c .unconfirmed .other (lost c s)).modBay c fun b =>
    { b with column := { b.column with answer := none }, display := none } := by
  have hlost : requestColumnLost c ((s.modColumn c fun k => { k with lost := true }).modHatch c fun h =>
      { h with demand := h.demand.map holdTimer }) = lost c s := by
    rw [requestColumnLost, lost, modColumn_eq_modBay, modHatch_eq_modBay, modBay_modBay, bay_modBay_self]
    by_cases hf : (s.bay c).record.fault = .none
    · rw [if_pos hf, if_pos hf, modRecord_eq_modBay, modBay_modBay]
      refine congrArg (raise .containerFault) (modBay_congr ?_)
      rw [lostBay, if_pos hf]
    · rw [if_neg hf, if_neg hf]
      refine modBay_congr ?_
      rw [lostBay, if_neg hf]
  unfold markLost
  dsimp only
  rw [hlost]

theorem bay_lost : (lost c s).bay c = lostBay (s.bay c) := by
  unfold lost
  split
  · rw [bay_raise, bay_modBay_self]
  · rw [bay_modBay_self]

theorem lost_eq : lost c s = { s with bays := (s.modBay c lostBay).bays, port := (lost c s).port } := by
  unfold lost
  split <;> rfl

theorem getLsbD_lost : (lost c s).port.items.getLsbD 2 =
    (s.port.items.getLsbD 2 || decide ((s.bay c).record.fault = .none)) := by
  unfold lost
  split
  next h => rw [getLsbD_raise (by decide), decide_eq_true h]; rfl
  next h => rw [decide_eq_false h, Bool.or_false]; rfl

/-- A held or spent T_cl does not run. -/
theorem not_running_holdTimer {x : Option CloseTimer} {n : Nat} : x.map holdTimer ≠ some (.running n) := by
  cases x with
  | none => simp
  | some x => cases x <;> simp [holdTimer]

theorem startedDemand_ne_none {lost polling : Bool} {len : Nat} {x : Option CloseTimer} :
    startedDemand lost polling len x ≠ none := by
  cases x with
  | none => unfold startedDemand; dsimp only; split <;> simp
  | some x => simp [startedDemand]

theorem not_running_startedDemand_lost {polling : Bool} {len n : Nat} {x : Option CloseTimer}
    (h : x ≠ some (.running n)) : startedDemand true polling len x ≠ some (.running n) := by
  cases x with
  | none => simp [startedDemand]
  | some x => exact h

/-- A slot's count of a column, and the marking where it reaches N_lost (R29, R30). -/
def countedColumn (k : Column) : Column :=
  { k with consecutive := bump 15 k.consecutive, total := bump 65535 k.total }

theorem nonValidSlot_eq : nonValidSlot c s =
    if (s.bay c).column.lost = false ∧ s.settings.nLost ≤ (countedColumn (s.bay c).column).consecutive then
      (endCycle c .unconfirmed .other (lost c (s.modColumn c countedColumn))).modBay c fun b =>
        { b with column := { b.column with answer := none }, display := none }
    else s.modColumn c countedColumn := by
  have hbay : ((s.modColumn c countedColumn).bay c).column = countedColumn (s.bay c).column := by
    rw [modColumn_eq_modBay, bay_modBay_self]
  unfold nonValidSlot
  rw [← markLost_eq]
  refine if_congr ?_ rfl rfl
  have hbay' : ((s.modColumn c fun k => { k with consecutive := bump 15 k.consecutive, total := bump 65535 k.total }).bay
    c).column = countedColumn (s.bay c).column := hbay
  rw [hbay']
  rfl

theorem slotEnds_of_some {rest : List (Option Box)} {rx : SlotRx} (h : s.bus.slots = some c :: rest) :
    slotEnds rx s = nextSlot (handleSlot c rx s) := by
  rw [slotEnds, h]

/-- Settles O35: the count, and where it reaches N_lost the marked column, its cycle ended. -/
theorem nonValidSlotEnds : Obligations.NonValidSlotEnds := by
  refine ⟨fun s rx => ⟨fun h => ?_, fun rest h => ?_⟩, fun s c rest rx f hslots hf => ?_⟩
  · exact congrArg Host.Outcome.next (by rw [slotEnds, h])
  · exact congrArg Host.Outcome.next (by rw [slotEnds, h])
  intro b counted u marked requested
  have hhandle : handleSlot c rx s = u := by
    cases rx with
    | nothing => subst hf; rfl
    | unfinished => subst hf; rfl
    | complete w ok =>
      obtain ⟨rfl, hbad⟩ := hf
      have houtcome : slotOutcome c (.complete w ok) = .garbled := by
        refine if_neg fun h => ?_
        obtain ⟨hok, hecho⟩ := Bool.and_eq_true_iff.1 h
        rcases hbad with e | e
        · exact Bool.false_ne_true (e.symm.trans hok)
        · exact e (beq_iff_eq.1 hecho)
      rw [handleSlot, houtcome]
  have hrequested : lost c ((setBusFlag f s).modColumn c countedColumn) = requested := by
    rw [lost, modColumn_eq_modBay, bay_modBay_self]
    refine if_congr Iff.rfl (congrArg (raise .containerFault) ?_) ?_
    · exact modBay_modBay
    · exact modBay_modBay
  have hcond : (b.column.lost = false ∧ s.settings.nLost ≤ (countedColumn b.column).consecutive) ↔
      (b.column.lost = false ∧ s.settings.nLost ≤ counted.consecutive) := Iff.rfl
  refine ⟨congrArg Host.Outcome.next ((slotEnds_of_some hslots).trans (congrArg nextSlot hhandle)), fun h => ?_, fun h => ?_⟩
  · exact nonValidSlot_eq.trans (if_neg h)
  have hu : u = (endCycle c .unconfirmed .other requested).modBay c fun b =>
      { b with column := { b.column with answer := none }, display := none } := by
    rw [← hrequested]
    exact nonValidSlot_eq.trans (if_pos h)
  have hbay : requested.bay c = lostBay { b with column := countedColumn b.column } := by
    rw [← hrequested, bay_lost, modColumn_eq_modBay, bay_modBay_self]
    rfl
  have hfields : requested = { s with
      bays := requested.bays, port := requested.port, bus := (setBusFlag f s).bus } := by
    rw [← hrequested, lost_eq]
    rfl
  refine ⟨hu, ?_, ?_, ?_, ?_, ?_, ?_, ?_, ?_⟩
  all_goals rw [hu]
  · rw [bay_modBay_self]
    obtain e | e := column_endCycle (s := requested) (c := c) (d := c) (o := .unconfirmed) (cause := .other)
    · rw [e, hbay]; rfl
    · rw [e, hbay]; rfl
  · rw [bay_modBay_self]
  · rw [bay_modBay_self]
    exact record_endCycle.trans (congrArg Bay.record hbay)
  · rw [bay_modBay_self]
    exact cycle_endCycle
  · rw [bay_modBay_self]
    intro n
    have hnot : (requested.bay c).hatch.demand ≠ some (.running n) := by
      rw [hbay]
      exact not_running_holdTimer
    cases hk : (requested.bay c).hatch.cycle with
    | none =>
      rw [endCycle_none hk]
      exact hnot
    | some k =>
      have hlost : (requested.bay c).column.lost = true := by rw [hbay]; rfl
      obtain e | e := demand_endCycle (s := requested) (c := c) (o := .unconfirmed) (cause := .other) hk
      · change ((endCycle c .unconfirmed .other requested).bay c).hatch.demand ≠ _
        rw [e, hlost]
        exact not_running_startedDemand_lost hnot
      · change ((endCycle c .unconfirmed .other requested).bay c).hatch.demand ≠ _
        rw [e]
        exact not_running_holdTimer
  · refine (getLsbD_endCycle (by decide) (by decide)).trans ?_
    rw [← hrequested, getLsbD_lost, modColumn_eq_modBay, bay_modBay_self]
    rfl
  · intro hk
    have hk' : (requested.bay c).hatch.cycle = none := by rw [hbay]; exact hk
    rw [endCycle_none hk', hfields]
    exact ⟨rfl, rfl, rfl⟩
  · intro k hk
    have hk' : (requested.bay c).hatch.cycle = some k := by rw [hbay]; exact hk
    refine ⟨⟨recordOf { requested with cards := settledCards .unconfirmed k requested } c .unconfirmed k, ?_,
      rfl, rfl, rfl, rfl⟩, ?_, ?_, ?_⟩
    · rw [fields_endCycle hk', hfields]
      rfl
    · rw [fields_endCycle hk', hfields]
      rfl
    · rw [fields_endCycle hk', hfields]
      rfl
    · rw [bay_modBay_self]
      obtain e | e := demand_endCycle (s := requested) (c := c) (o := .unconfirmed) (cause := .other) hk'
      · exact e ▸ startedDemand_ne_none
      · change ((endCycle c .unconfirmed .other requested).bay c).hatch.demand ≠ _
        rw [e]
        exact fun h => startedDemand_ne_none (Option.map_eq_none_iff.1 h)

end Sys2Proof.Machine
end

section
/-! The end of a slot with a Valid uplink, step by step (R27, R28, R31, R32). -/

namespace Sys2Proof.Machine

open Sys2Proof

variable {p q : Prop} {s t u : State} {c d : Box} {v : Uplink}

/-! ## What the steps before the presentation keep -/

/-- What the drum turns, the hatch report and the level of a Valid uplink keep: everything of the column but a pending
answer that the entry to Quiet drops, the counters, and, where `q` holds, the stray tally and the estimate's volumes. -/
structure UplinkKept (q : Prop) (c : Box) (s t : State) : Prop where
  flags : t.bus.flags = s.bus.flags
  settings : t.settings = s.settings
  denials : t.denials = s.denials
  bus : s.bus.state ≠ .draining → t.bus = s.bus
  column : (t.bay c).column = (s.bay c).column ∨ (t.bay c).column = { (s.bay c).column with answer := none }
  calm : s.bus.state ≠ .draining → (t.bay c).column = (s.bay c).column ∧ (t.bay c).display = (s.bay c).display
  tally : (t.bay c).record.tally = (s.bay c).record.tally
  fault : (s.bay c).record.fault ≠ .none → (t.bay c).record.fault = (s.bay c).record.fault
  baseline : (t.bay c).hatch.baseline = (s.bay c).hatch.baseline
  volumes : q → (t.bay c).hatch.stray = (s.bay c).hatch.stray ∧ (t.bay c).est.volume = (s.bay c).est.volume ∧
    (t.bay c).est.fill = (s.bay c).est.fill
  free : (s.bay c).hatch.cycle = none →
    (t.bay c).hatch.cycle = none ∧ t.openCards = s.openCards ∧ t.cards = s.cards

theorem UplinkKept.refl : UplinkKept q c s s :=
  ⟨rfl, rfl, rfl, fun _ => rfl, .inl rfl, fun _ => ⟨rfl, rfl⟩, rfl, fun _ => rfl, rfl, fun _ => ⟨rfl, rfl, rfl⟩,
    fun h => ⟨h, rfl, rfl⟩⟩

theorem UplinkKept.trans (h : UplinkKept q c s t) (h' : UplinkKept q c t u) : UplinkKept q c s u where
  flags := h'.flags.trans h.flags
  settings := h'.settings.trans h.settings
  denials := h'.denials.trans h.denials
  bus hs := (h'.bus (by rw [h.bus hs]; exact hs)).trans (h.bus hs)
  column := by
    rcases h.column with e | e <;> rcases h'.column with e' | e' <;> rw [e', e] <;> simp
  calm hs :=
    have hs' : t.bus.state ≠ .draining := by rw [h.bus hs]; exact hs
    ⟨(h'.calm hs').1.trans (h.calm hs).1, (h'.calm hs').2.trans (h.calm hs).2⟩
  tally := h'.tally.trans h.tally
  fault hf := (h'.fault (by rw [h.fault hf]; exact hf)).trans (h.fault hf)
  baseline := h'.baseline.trans h.baseline
  volumes hq :=
    have ⟨hs, hv, hf⟩ := h.volumes hq
    have ⟨hs', hv', hf'⟩ := h'.volumes hq
    ⟨hs'.trans hs, hv'.trans hv, hf'.trans hf⟩
  free hk :=
    have ⟨hk', ho, hc⟩ := h.free hk
    have ⟨hk'', ho', hc'⟩ := h'.free hk'
    ⟨hk'', ho'.trans ho, hc'.trans hc⟩

theorem UplinkKept.modBay {f : Bay → Bay} (hcol : (f (s.bay c)).column = (s.bay c).column)
    (hdisp : (f (s.bay c)).display = (s.bay c).display) (htally : (f (s.bay c)).record.tally = (s.bay c).record.tally)
    (hfault : (s.bay c).record.fault ≠ .none → (f (s.bay c)).record.fault = (s.bay c).record.fault)
    (hbase : (f (s.bay c)).hatch.baseline = (s.bay c).hatch.baseline)
    (hvol : q → (f (s.bay c)).hatch.stray = (s.bay c).hatch.stray ∧
      (f (s.bay c)).est.volume = (s.bay c).est.volume ∧ (f (s.bay c)).est.fill = (s.bay c).est.fill)
    (hcycle : (s.bay c).hatch.cycle = none → (f (s.bay c)).hatch.cycle = none) : UplinkKept q c s (s.modBay c f) := by
  have hbay : (s.modBay c f).bay c = f (s.bay c) := bay_modBay_self
  refine ⟨rfl, rfl, rfl, fun _ => rfl, .inl ?_, fun _ => ⟨?_, ?_⟩, ?_, fun h => ?_, ?_, fun h => ?_, fun h => ⟨?_, rfl, rfl⟩⟩
  all_goals rw [hbay]
  · exact hcol
  · exact hcol
  · exact hdisp
  · exact htally
  · exact hfault h
  · exact hbase
  · exact hvol h
  · exact hcycle h

theorem UplinkKept.modHatch {f : Hatch → Hatch} (hbase : (f (s.bay c).hatch).baseline = (s.bay c).hatch.baseline)
    (hstray : (f (s.bay c).hatch).stray = (s.bay c).hatch.stray)
    (hcycle : (s.bay c).hatch.cycle = none → (f (s.bay c).hatch).cycle = none) : UplinkKept q c s (s.modHatch c f) := by
  rw [modHatch_eq_modBay]
  exact .modBay rfl rfl rfl (fun _ => rfl) hbase (fun _ => ⟨hstray, rfl, rfl⟩) hcycle

theorem uplinkKept_raise {i : Item} : UplinkKept q c s (raise i s) :=
  ⟨rfl, rfl, rfl, fun _ => rfl, .inl rfl, fun _ => ⟨rfl, rfl⟩, rfl, fun _ => rfl, rfl, fun _ => ⟨rfl, rfl, rfl⟩,
    fun h => ⟨h, rfl, rfl⟩⟩

theorem uplinkKept_setHatchJam : UplinkKept q c s (setHatchJam c s) := by
  rw [setHatchJam_eq]
  split
  next h =>
    refine .trans (.modBay rfl rfl rfl (fun hf => absurd h hf) rfl (fun _ => ⟨rfl, rfl, rfl⟩) id) uplinkKept_raise
  next => exact .refl

theorem bay_cycleEnded_self {o : CycleOutcome} {cause : EndCause} {k : Cycle} (ho : o ≠ .unconfirmed) :
    (cycleEnded c o cause k s).bay c =
      endedBay cause (isPolling s.bus) s.settings.tCl (s.bay c).est (s.bay c) := by
  rw [bay_cycleEnded, if_pos rfl, volumeAtEnd, if_neg fun h => ho h.1]

theorem uplinkKept_endCycle {o : CycleOutcome} {cause : EndCause} (ho : o ≠ .unconfirmed) :
    UplinkKept q c s (endCycle c o cause s) := by
  cases hk : (s.bay c).hatch.cycle with
  | none => rw [endCycle_none hk]; exact .refl
  | some k =>
    have hbay : (cycleEnded c o cause k s).bay c = _ := bay_cycleEnded_self ho
    obtain ⟨⟨hd, -⟩, e⟩ | ⟨-, e⟩ := endCycle_cases (o := o) (cause := cause) hk
    · have hbay' : (endCycle c o cause s).bay c = stopPollingBay (endedBay cause (isPolling s.bus) s.settings.tCl
          (s.bay c).est (s.bay c)) := by rw [e, bay_enterQuiet, hbay]
      refine ⟨?_, ?_, ?_, fun h => absurd hd h, .inr ?_, fun h => absurd hd h, ?_, fun _ => ?_, ?_, fun _ => ?_,
        fun h => by rw [hk] at h; cases h⟩
      · rw [e, bus_enterQuiet]; rfl
      · rw [e, enterQuiet_eq]; rfl
      · rw [e, enterQuiet_eq]; rfl
      all_goals rw [hbay']
      · rfl
      · rfl
      · rfl
      · rfl
      · exact ⟨rfl, rfl, rfl⟩
    · have hbay' : (endCycle c o cause s).bay c =
          endedBay cause (isPolling s.bus) s.settings.tCl (s.bay c).est (s.bay c) := by rw [e, hbay]
      refine ⟨?_, ?_, ?_, fun h => ?_, .inl ?_, fun h => ?_, ?_, fun _ => ?_, ?_, fun _ => ?_,
        fun h => by rw [hk] at h; cases h⟩
      · rw [e]; rfl
      · rw [e]; rfl
      · rw [e]; rfl
      · rw [e]; rfl
      all_goals rw [hbay']
      · rfl
      · exact ⟨rfl, rfl⟩
      · rfl
      · rfl
      · rfl
      · exact ⟨rfl, rfl, rfl⟩

theorem outcomeBy_ne_unconfirmed {k : Cycle} : outcomeBy k .noDeposit ≠ .unconfirmed := by
  unfold outcomeBy
  split <;> simp

theorem uplinkKept_requestHatchJam : UplinkKept q c s (requestHatchJam c s) := by
  cases hk : (s.bay c).hatch.cycle with
  | none => rw [requestHatchJam_none hk]; exact uplinkKept_setHatchJam
  | some k =>
    rw [requestHatchJam_some hk]
    exact uplinkKept_setHatchJam.trans (uplinkKept_endCycle outcomeBy_ne_unconfirmed)

theorem uplinkKept_hatchReport {h : HatchState} : UplinkKept q c s (hatchReport c h s) := by
  cases h with
  | closed =>
    refine UplinkKept.trans (t := closedEnds c s) ?_
      (.modHatch (f := fun h => { h with demand := none }) rfl rfl id)
    unfold closedEnds
    split
    · exact .refl
    · split
      · exact .refl
      · exact uplinkKept_endCycle (by simp)
      · exact uplinkKept_endCycle (by simp)
  | opening => exact .refl
  | opened =>
    change UplinkKept q c s (openedReport c s)
    unfold openedReport
    split
    · exact .refl
    next k hk =>
      split
      · exact .modHatch rfl rfl fun h => by rw [hk] at h; cases h
      · exact .refl
  | closing => exact .refl
  | jammed => exact uplinkKept_requestHatchJam

theorem iterate_turnedHatch_keeps {lost polling : Bool} {len : Nat} : ∀ (n : Nat) (h : Hatch),
    ((turnedHatch lost polling len)^[n] h).baseline = h.baseline ∧
    (h.cycle = none → ((turnedHatch lost polling len)^[n] h).cycle = none)
  | 0, _ => ⟨rfl, id⟩
  | n + 1, h => by
    have hturn : (turnedHatch lost polling len h).baseline = h.baseline ∧
        (h.cycle = none → (turnedHatch lost polling len h).cycle = none) := by
      unfold turnedHatch
      split
      · exact ⟨rfl, id⟩
      next k hk =>
        split
        · exact ⟨rfl, id⟩
        · exact ⟨rfl, fun h => by rw [hk] at h; cases h⟩
    obtain ⟨hb, hc⟩ := iterate_turnedHatch_keeps n (turnedHatch lost polling len h)
    rw [Function.iterate_succ_apply]
    exact ⟨hb.trans hturn.1, fun h => hc (hturn.2 h)⟩

/-- Drum turns keep the column and the counters; no turn keeps the volumes too. -/
theorem uplinkKept_takeTurns {n : Nat} : UplinkKept (n = 0) c s (takeTurns c n s) := by
  obtain ⟨hframe, -, hself⟩ := takeTurns_spec (c := c) n s
  obtain ⟨hbase, hcycle⟩ := iterate_turnedHatch_keeps (lost := (s.bay c).column.lost) (polling := isPolling s.bus)
    (len := s.settings.tCl) n (s.bay c).hatch
  refine ⟨by rw [hframe], by rw [hframe], by rw [hframe], fun _ => by rw [hframe], .inl (by rw [hself]),
    fun _ => ⟨by rw [hself], by rw [hself]⟩, by rw [hself], fun _ => by rw [hself], by rw [hself]; exact hbase, ?_,
    fun h => ⟨by rw [hself]; exact hcycle h, by rw [hframe], by rw [hframe]⟩⟩
  rintro rfl
  exact ⟨rfl, rfl, rfl⟩

theorem uplinkKept_takeLevel {l : LevelReading} : UplinkKept q c s (takeLevel c l s) := by
  cases l with
  | echoLost => exact .refl
  | height h =>
    unfold takeLevel
    dsimp only
    split
    · exact .refl
    · rw [modEst_eq_modBay]
      exact .modBay rfl rfl rfl (fun _ => rfl) rfl (fun _ => ⟨rfl, rfl, rfl⟩) id

/-! ## The steps of the uplink -/

/-- The records of a container once its Valid uplink is received (R27 steps 1 to 3, R31, R32). -/
def receivedBay (u : Uplink) (b : Bay) : Bay :=
  { b with
    column := { b.column with
      consecutive := 0, lost := false
      last := some ⟨u.hatch, u.drum.toNat, u.card.map BitVec.toNat, u.level⟩ }
    record := { b.record with fault :=
      if b.column.lost = true ∧ b.record.fault = .columnLost then .none else b.record.fault }
    hatch := { b.hatch with baseline := some u.drum.toNat } }

/-- A Valid uplink received: ValidSeen, and the records of its container. -/
def received (c : Box) (u : Uplink) (s : State) : State :=
  (setBusFlag .validSeen s).modBay c (receivedBay u)

/-- The drum turns and the hatch report of a Valid uplink (R50, R51). -/
def reported (c : Box) (u : Uplink) (s : State) : State :=
  hatchReport c u.hatch (takeTurns c (turnsOf (s.bay c).hatch.baseline (s.bay c).column.lost u.drum.toNat) (received c u s))

/-- A held T_cl restarted by a return (R57; log entries 13 and 14). -/
def resumed (c : Box) (u : Uplink) (s : State) : State :=
  if (s.bay c).column.lost && isPolling (reported c u s).bus
    then (reported c u s).modHatch c (resumeDemand (reported c u s).settings.tCl) else reported c u s

/-- The level of a Valid uplink taken (R109). -/
def filed (c : Box) (u : Uplink) (s : State) : State :=
  match u.level with
  | some l => takeLevel c l (resumed c u s)
  | none => resumed c u s

theorem bay_received : (received c v s).bay c = receivedBay v (s.bay c) :=
  bay_modBay_self

/-- The records set before the drum turns, returned or not, are those of `receivedBay`. -/
theorem received_eq : ((if (s.bay c).column.lost then columnReturn c (s.modColumn c fun k => { k with consecutive := 0 })
      else s.modColumn c fun k => { k with consecutive := 0 }).modColumn c fun k =>
      { k with last := some (lastOf v) }).modHatch c (fun h => { h with baseline := some v.drum.toNat }) =
    s.modBay c (receivedBay v) := by
  cases hl : (s.bay c).column.lost with
  | true =>
    rw [if_pos rfl, columnReturn]
    simp only [modColumn_eq_modBay, modRecord_eq_modBay, modHatch_eq_modBay, modBay_modBay]
    refine modBay_congr ?_
    rw [receivedBay, hl]
    simp [lastOf]
  | false =>
    rw [if_neg Bool.false_ne_true]
    simp only [modColumn_eq_modBay, modHatch_eq_modBay, modBay_modBay]
    refine modBay_congr ?_
    rw [receivedBay, hl]
    simp [lastOf]

theorem validUplink_eq : validUplink c v (setBusFlag .validSeen s) =
    takePresentation c (v.card.map BitVec.toNat) (filed c v s) := by
  have hbase : (((if (s.bay c).column.lost then columnReturn c ((setBusFlag .validSeen s).modColumn c fun k => { k with consecutive := 0 })
      else (setBusFlag .validSeen s).modColumn c fun k => { k with consecutive := 0 }).modColumn c fun k =>
      { k with last := some (lastOf v) }).bay c).hatch.baseline = (s.bay c).hatch.baseline := by
    split
    · simp [columnReturn]
    · simp
  have hreceived := received_eq (s := setBusFlag .validSeen s) (c := c) (v := v)
  rw [bay_setBusFlag] at hreceived
  unfold validUplink takeHatch
  dsimp only
  rw [bay_setBusFlag, hbase, hreceived]
  rfl

theorem turnsOf_eq_zero {x : Option Nat} {returned : Bool} {n : Nat} (h : returned = true ∨ x = none) :
    turnsOf x returned n = 0 := by
  rcases h with rfl | rfl
  · cases x <;> rfl
  · rfl

theorem uplinkKept_reported : UplinkKept ((s.bay c).column.lost = true ∨ (s.bay c).hatch.baseline = none) c
    (received c v s) (reported c v s) := by
  refine UplinkKept.trans ?_ uplinkKept_hatchReport
  have h := uplinkKept_takeTurns (c := c) (s := received c v s)
    (n := turnsOf (s.bay c).hatch.baseline (s.bay c).column.lost v.drum.toNat)
  exact { h with volumes := fun hq => h.volumes (turnsOf_eq_zero hq) }

theorem uplinkKept_resumed : UplinkKept q c (reported c v s) (resumed c v s) := by
  unfold resumed
  split
  · exact .modHatch rfl rfl id
  · exact .refl

theorem uplinkKept_filed : UplinkKept ((s.bay c).column.lost = true ∨ (s.bay c).hatch.baseline = none) c
    (received c v s) (filed c v s) := by
  refine (uplinkKept_reported.trans uplinkKept_resumed).trans ?_
  unfold filed
  split
  · exact uplinkKept_takeLevel
  · exact .refl

/-- The hatch record a level leaves, and the container record. -/
theorem bay_filed : ∃ e, (filed c v s).bay c = { (resumed c v s).bay c with est := e } := by
  unfold filed
  split
  next l hl =>
    cases l with
    | echoLost => exact ⟨_, rfl⟩
    | height h =>
      unfold takeLevel
      dsimp only
      split
      · exact ⟨_, rfl⟩
      · exact ⟨_, by rw [modEst_eq_modBay, bay_modBay_self]⟩
  next => exact ⟨_, rfl⟩

theorem bay_resumed : ∃ x, (resumed c v s).bay c = { (reported c v s).bay c with
    hatch := { ((reported c v s).bay c).hatch with demand := x } } ∧
    (((reported c v s).bay c).hatch.demand = none → x = none) := by
  unfold resumed
  split
  · refine ⟨_, by rw [modHatch_eq_modBay, bay_modBay_self]; rfl, fun h => ?_⟩
    rw [h]
    rfl
  · exact ⟨_, rfl, id⟩

/-- A report other than Jammed leaves the container record. -/
theorem record_reported (h : v.hatch ≠ .jammed) :
    ((reported c v s).bay c).record = (receivedBay v (s.bay c)).record := by
  have hturns (n : Nat) : ((takeTurns c n (received c v s)).bay c).record = (receivedBay v (s.bay c)).record := by
    rw [(takeTurns_spec n (received c v s)).2.2, bay_received]
  unfold reported
  generalize turnsOf (s.bay c).hatch.baseline (s.bay c).column.lost v.drum.toNat = n
  generalize htu : takeTurns c n (received c v s) = w
  have hw : (w.bay c).record = (receivedBay v (s.bay c)).record := by rw [← htu]; exact hturns n
  rw [← hw]
  cases hv : v.hatch with
  | closed =>
    have hclosed : ((closedEnds c w).bay c).record = (w.bay c).record := by
      unfold closedEnds
      split
      · rfl
      · split
        · rfl
        · exact record_endCycle
        · exact record_endCycle
    rw [hatchReport, meetDemand, modHatch_eq_modBay, bay_modBay_self]
    exact hclosed
  | opening => rfl
  | opened =>
    rw [hatchReport, openedReport]
    split
    · rfl
    · split
      · rw [modHatch_eq_modBay, bay_modBay_self]
      · rfl
  | closing => rfl
  | jammed => exact absurd hv h

/-- A Closed report leaves no close demand (R55). -/
theorem demand_reported_closed (h : v.hatch = .closed) : ((reported c v s).bay c).hatch.demand = none := by
  rw [reported, h, hatchReport, meetDemand, modHatch_eq_modBay, bay_modBay_self]

/-- A Jammed report leaves a fault and no cycle (R56). -/
theorem fault_requestHatchJam : ((requestHatchJam c s).bay c).record.fault ≠ .none ∧
    ((requestHatchJam c s).bay c).hatch.cycle = none := by
  have hfault : ((setHatchJam c s).bay c).record.fault ≠ .none := by
    rw [setHatchJam_eq]
    split
    · rw [bay_raise, bay_modBay_self]
      simp
    next h => exact h
  cases hk : (s.bay c).hatch.cycle with
  | none =>
    rw [requestHatchJam_none hk, cycle_setHatchJam]
    exact ⟨hfault, hk⟩
  | some k =>
    rw [requestHatchJam_some hk, record_endCycle]
    exact ⟨hfault, cycle_endCycle⟩

/-! ## The delivery and the presentation -/

theorem isDelivered_iff {k : Column} {card : Option Nat} {a : Answer} (h : k.answer = some a) :
    isDelivered k card = true ↔ (∃ d ∈ k.downlink, d.tag = some a.card) ∧ card ≠ some a.card := by
  rw [isDelivered, h]
  simp only [Bool.and_eq_true, beq_iff_eq, bne_iff_ne, Option.bind_eq_some_iff, Option.mem_def]

theorem isDelivered_none {k : Column} {card : Option Nat} (h : k.answer = none) : isDelivered k card = false := by
  rw [isDelivered, h]

/-- What a delivery and a presentation keep: all of the column but its answer, the estimate, the fault, and the hatch
record but for a grant's cycle. -/
structure PresentationKept (c : Box) (s t : State) : Prop where
  flags : t.bus.flags = s.bus.flags
  column : { (t.bay c).column with answer := none } = { (s.bay c).column with answer := none }
  est : (t.bay c).est = (s.bay c).est
  baseline : (t.bay c).hatch.baseline = (s.bay c).hatch.baseline
  stray : (t.bay c).hatch.stray = (s.bay c).hatch.stray
  fault : (t.bay c).record.fault = (s.bay c).record.fault
  demand : (s.bay c).hatch.demand = none → (t.bay c).hatch.demand = none
  cycle : (s.bay c).record.fault ≠ .none → (t.bay c).hatch.cycle = (s.bay c).hatch.cycle

theorem PresentationKept.refl : PresentationKept c s s :=
  ⟨rfl, rfl, rfl, rfl, rfl, rfl, id, fun _ => rfl⟩

theorem PresentationKept.trans (h : PresentationKept c s t) (h' : PresentationKept c t u) : PresentationKept c s u :=
  ⟨h'.flags.trans h.flags, h'.column.trans h.column, h'.est.trans h.est, h'.baseline.trans h.baseline,
    h'.stray.trans h.stray, h'.fault.trans h.fault, fun hd => h'.demand (h.demand hd),
    fun hf => (h'.cycle (by rw [h.fault]; exact hf)).trans (h.cycle hf)⟩

/-- Records changed in the tally, the answer and the display alone. -/
theorem PresentationKept.of_bay {n : Nat} {a : Option Answer} {x : Option DenialReason}
    (hflags : t.bus.flags = s.bus.flags) (hb : t.bay c = { s.bay c with
      record := { (s.bay c).record with tally := n }
      column := { (s.bay c).column with answer := a }, display := x }) : PresentationKept c s t :=
  ⟨hflags, by rw [hb], by rw [hb], by rw [hb], by rw [hb], by rw [hb], by rw [hb]; exact id, fun _ => by rw [hb]⟩

theorem deliver_eq_of_delivered {card : Option Nat} (h : isDelivered (s.bay c).column card = true) :
    deliver c card s = s.modBay c fun b =>
      { b with column := { b.column with answer := none }, display := displayAfterDelivery b.column b.display } :=
  if_pos h

theorem deliver_eq_of_not {card : Option Nat} (h : ¬ isDelivered (s.bay c).column card = true) :
    deliver c card s = s :=
  if_neg h

theorem presentationKept_deliver {card : Option Nat} : PresentationKept c s (deliver c card s) := by
  by_cases h : isDelivered (s.bay c).column card = true
  · rw [deliver_eq_of_delivered h]
    exact .of_bay rfl (bay_modBay_self (s := s) (c := c))
  · rw [deliver_eq_of_not h]
    exact .refl

/-- A grant finds its container without a fault (R74). -/
theorem fault_of_granted {card : Nat} {draining : Bool} (h : (decidePresentation c card draining s).1 = .granted) :
    (s.bay c).record.fault = .none := by
  unfold decidePresentation at h
  split at h
  · cases h
  next k _ =>
    split at h
    · cases h
    · cases h
    next hnone =>
      have hopen := (denialOfKnown_eq_none hnone).1
      rw [opState_eq_ite] at hopen
      by_contra hf
      split at hopen
      · cases hopen
      · split at hopen
        · split at hopen <;> cases hopen
        · cases hopen

theorem presentationKept_newPresentation {card : Nat} : PresentationKept c s (newPresentation c card s) ∧
    ∃ code, ((newPresentation c card s).bay c).column.answer = some ⟨card, code⟩ := by
  have hbay (x : Bay) (w : State) (h : w.bays = s.bays.set c x) : w.bay c = x := by simp [State.bay, h]
  have hflags : (if s.bus.state = .woken then { s.bus with tInact := some s.settings.tInact } else s.bus).flags =
      s.bus.flags := by split <;> rfl
  obtain ⟨r, -, -, e⟩ | ⟨k, -, -, e⟩ | ⟨k, -, hcode, e⟩ := newPresentation_cases (s := s) (c := c) (card := card)
  · have hb := hbay (deniedBay ⟨card, .denied r⟩ (s.bay c)) _ (congrArg State.bays e)
    exact ⟨.of_bay (by rw [e]; exact hflags) hb, .denied r, by rw [hb]; rfl⟩
  · have hb := hbay (deniedBay ⟨card, .denied .cardBlocked⟩ (s.bay c)) _ (congrArg State.bays e)
    exact ⟨.of_bay (by rw [e]; exact hflags) hb, .denied .cardBlocked, by rw [hb]; rfl⟩
  · have hb := hbay _ _ (congrArg State.bays e)
    exact ⟨⟨by rw [e]; exact hflags, by rw [hb], by rw [hb], by rw [hb]; rfl, by rw [hb]; rfl, by rw [hb],
      fun _ => by rw [hb]; rfl, fun h => absurd (fault_of_granted hcode) h⟩, .granted, by rw [hb]⟩

theorem presentationKept_takePresentation {card : Option Nat} : PresentationKept c s (takePresentation c card s) := by
  unfold takePresentation
  dsimp only
  split
  · exact presentationKept_deliver
  · split
    · exact presentationKept_deliver
    · exact presentationKept_deliver.trans presentationKept_newPresentation.1

/-- The presentation a Valid uplink carries is answered. -/
theorem answer_takePresentation_some {n : Nat} :
    ((takePresentation c (some n) s).bay c).column.answer.map Answer.card = some n := by
  unfold takePresentation
  dsimp only
  split
  next h => exact h
  next =>
    obtain ⟨code, h⟩ := (presentationKept_newPresentation (c := c) (s := deliver c (some n) s) (card := n)).2
    rw [h]
    rfl

/-- With the pending answer its own the presentation changes nothing. -/
theorem takePresentation_own {n : Nat} {a : Answer} (h : (s.bay c).column.answer = some a) (hn : a.card = n) :
    takePresentation c (some n) s = s := by
  have hnot : ¬ isDelivered (s.bay c).column (some n) = true := fun hd =>
    ((isDelivered_iff h).1 hd).2 (by rw [hn])
  unfold takePresentation
  dsimp only
  rw [deliver_eq_of_not hnot, h]
  exact if_pos (congrArg some hn)

theorem displayAfterDelivery_some {k : Column} {a : Answer} {x : Option DenialReason} (h : k.answer = some a) :
    displayAfterDelivery k x = match a.code with
      | .denied r => some r
      | _ => x := by
  obtain ⟨n, code⟩ := a
  rw [displayAfterDelivery, h]
  cases code <;> rfl

/-- The delivery by the rule's own words (R28, R80). -/
theorem deliver_eq {card : Option Nat} : deliver c card s =
    match (s.bay c).column.answer with
    | some a =>
      if (∃ d ∈ (s.bay c).column.downlink, d.tag = some a.card) ∧ card ≠ some a.card
      then s.modBay c fun b =>
        { b with
          column := { b.column with answer := none }
          display := match a.code with
            | .denied r => some r
            | _ => b.display }
      else s
    | none => s := by
  cases h : (s.bay c).column.answer with
  | none => exact deliver_eq_of_not (by rw [isDelivered_none h]; exact Bool.false_ne_true)
  | some a =>
    refine if_congr (isDelivered_iff h) (modBay_congr ?_) rfl
    rw [displayAfterDelivery_some h]

/-- The restart of a held T_cl by the rule's own words (R57). -/
theorem resumed_eq : resumed c v s =
    if (s.bay c).column.lost = true ∧ (reported c v s).bus.state ≠ .quiet ∧ (reported c v s).bus.state ≠ .blocked ∧
        ((reported c v s).bay c).hatch.demand = some .held
    then (reported c v s).modBay c fun b => { b with hatch := { b.hatch with demand := some (.running s.settings.tCl) } }
    else reported c v s := by
  have hsettings : (reported c v s).settings = s.settings := uplinkKept_reported.settings
  have hpoll : isPolling (reported c v s).bus = true ↔
      (reported c v s).bus.state ≠ .quiet ∧ (reported c v s).bus.state ≠ .blocked := by
    rw [← not_or, ← isPolling_eq_false_iff, Bool.not_eq_false]
  unfold resumed
  rw [hsettings]
  by_cases h : ((s.bay c).column.lost && isPolling (reported c v s).bus) = true
  · obtain ⟨hl, hp⟩ := Bool.and_eq_true_iff.1 h
    rw [if_pos h]
    by_cases hd : ((reported c v s).bay c).hatch.demand = some .held
    · rw [if_pos ⟨hl, (hpoll.1 hp).1, (hpoll.1 hp).2, hd⟩, modHatch_eq_modBay]
      refine modBay_congr ?_
      rw [resumeDemand, if_pos hd]
    · rw [if_neg fun hc => hd hc.2.2.2, modHatch_eq_modBay]
      refine modBay_id ?_
      rw [resumeDemand, if_neg hd]
  · rw [if_neg h, if_neg fun ⟨hl, hq, hb, _⟩ => h (Bool.and_eq_true_iff.2 ⟨hl, hpoll.2 ⟨hq, hb⟩⟩)]

/-- Settles O36: the steps one after another, then what each keeps. -/
theorem validSlotEnds : Obligations.ValidSlotEnds := by
  intro s c rest u hslots hecho b received' reported' resumed' filed' settled v
  have hresumed : resumed' = resumed c u s := resumed_eq.symm
  have hfiled : filed' = filed c u s := by
    change (match u.level with
      | some l => takeLevel c l resumed'
      | none => resumed') = _
    rw [hresumed]
    rfl
  have hsettled : settled = deliver c (u.card.map BitVec.toNat) (filed c u s) := by
    rw [deliver_eq, ← hfiled] <;> rfl
  have hv : v = takePresentation c (u.card.map BitVec.toNat) (filed c u s) := by
    unfold takePresentation
    dsimp only
    rw [← hsettled]
    change (match u.card with
      | some n => if (settled.bay c).column.answer.map Answer.card = some n.toNat then settled
        else newPresentation c n.toNat settled
      | none => settled) = _
    cases u.card <;> rfl
  have hK := uplinkKept_filed (c := c) (v := u) (s := s)
  have hP := presentationKept_takePresentation (c := c) (s := filed c u s) (card := u.card.map BitVec.toNat)
  have hR : (received c u s).bay c = receivedBay u b := bay_received
  have hcol : { (v.bay c).column with answer := none } = { (receivedBay u b).column with answer := none } := by
    rw [hv, hP.column]
    rcases hK.column with e | e <;> rw [e, hR]
  refine ⟨?_, ?_, (congrArg Column.consecutive hcol :), (congrArg Column.total hcol :), (congrArg Column.lost hcol :),
    (congrArg Column.last hcol :), ?_, fun hq => ?_, fun n hn => ?_, fun hn ha => ?_, fun a d hn ha hd htag => ?_,
    fun a n hs hn ha hc => ?_, fun hl hj hf => ?_, fun hf => ?_, fun hc => ?_, fun hj => ?_⟩
  · have houtcome : slotOutcome c (.complete u true) = .valid u :=
      if_pos (Bool.and_eq_true_iff.2 ⟨rfl, beq_iff_eq.2 hecho⟩)
    have hhandle : handleSlot c (.complete u true) s = v := by
      rw [handleSlot, houtcome, hv]
      exact validUplink_eq
    exact congrArg Host.Outcome.next ((slotEnds_of_some hslots).trans (congrArg nextSlot hhandle))
  · rw [hv, hP.flags, hK.flags]
    rfl
  · rw [hv, hP.baseline, hK.baseline, hR]
    rfl
  · obtain ⟨hs, hv', hf⟩ := hK.volumes hq
    rw [hv, hP.stray, hP.est, hs, hv', hf, hR]
    exact ⟨rfl, rfl, rfl⟩
  · rw [hv, hn]
    exact answer_takePresentation_some
  · rw [hv, hn]
    change ((deliver c none (filed c u s)).bay c).column.answer = none
    have hnone : ((filed c u s).bay c).column.answer = none := by
      rcases hK.column with e | e
      · rw [e, hR]
        exact ha
      · rw [e]
    rw [deliver_eq_of_not (by rw [isDelivered_none hnone]; exact Bool.false_ne_true)]
    exact hnone
  · rw [hv, hn]
    have hcalm : s.bus.state ≠ .draining → ((filed c u s).bay c).column = (receivedBay u b).column ∧
        ((filed c u s).bay c).display = b.display := fun hs => by
      obtain ⟨hcolumn, hdisplay⟩ := hK.calm (show (received c u s).bus.state ≠ .draining from hs)
      rw [hcolumn, hdisplay, hR]
      exact ⟨rfl, rfl⟩
    change ((deliver c none (filed c u s)).bay c).column.answer = none ∧
      (_ → ((deliver c none (filed c u s)).bay c).display = _)
    rcases hK.column with e | e
    · rw [hR] at e
      have hanswer : ((filed c u s).bay c).column.answer = some a := by rw [e]; exact ha
      have hdelivered : isDelivered ((filed c u s).bay c).column none = true :=
        (isDelivered_iff hanswer).2 ⟨⟨d, by rw [e]; exact hd, htag⟩, by simp⟩
      rw [deliver_eq_of_delivered hdelivered, bay_modBay_self]
      refine ⟨rfl, fun hs => (displayAfterDelivery_some hanswer).trans ?_⟩
      rw [(hcalm hs).2] <;> rfl
    · have hanswer : ((filed c u s).bay c).column.answer = none := by rw [e]
      rw [deliver_eq_of_not (by rw [isDelivered_none hanswer]; exact Bool.false_ne_true)]
      refine ⟨hanswer, fun hs => ?_⟩
      rw [(hcalm hs).1] at hanswer
      cases ha.symm.trans hanswer
  · have hs' : (received c u s).bus.state ≠ .draining := hs
    obtain ⟨hcolumn, hdisplay⟩ := hK.calm hs'
    have hown : v = filed c u s := by
      rw [hv, hn]
      refine takePresentation_own (a := a) ?_ hc
      rw [hcolumn, hR]
      exact ha
    rw [hown, hcolumn, hdisplay, hK.denials, hK.tally, hK.bus hs', hR]
    refine ⟨ha, rfl, rfl, rfl, rfl, fun hk => ?_⟩
    obtain ⟨-, ho, hcards⟩ := hK.free (by rw [hR]; exact hk)
    exact ⟨ho, hcards⟩
  · obtain ⟨e, he⟩ := bay_filed (c := c) (v := u) (s := s)
    obtain ⟨x, hx, -⟩ := bay_resumed (c := c) (v := u) (s := s)
    rw [hv, hP.fault, he, hx]
    refine (congrArg ContainerRec.fault (record_reported hj)).trans ?_
    exact if_pos ⟨hl, hf⟩
  · have hkeep : (receivedBay u b).record.fault = .hatchJam := by
      refine (if_neg fun h => ?_).trans hf
      rw [hf] at h
      cases h.2
    rw [hv, hP.fault, hK.fault, hR, hkeep]
    rw [hR, hkeep]
    simp
  · obtain ⟨e, he⟩ := bay_filed (c := c) (v := u) (s := s)
    obtain ⟨x, hx, hnone⟩ := bay_resumed (c := c) (v := u) (s := s)
    rw [hv]
    refine hP.demand ?_
    rw [he, hx]
    exact hnone (demand_reported_closed hc)
  · obtain ⟨e, he⟩ := bay_filed (c := c) (v := u) (s := s)
    obtain ⟨x, hx, -⟩ := bay_resumed (c := c) (v := u) (s := s)
    have hjam : ((reported c u s).bay c).record.fault ≠ .none ∧ ((reported c u s).bay c).hatch.cycle = none := by
      rw [reported, hj]
      exact fault_requestHatchJam
    have hfault : ((filed c u s).bay c).record.fault ≠ .none := by
      rw [he, hx]
      exact hjam.1
    rw [hv, hP.fault, hP.cycle hfault]
    refine ⟨hfault, ?_⟩
    rw [he, hx]
    exact hjam.2

end Sys2Proof.Machine
end

section
/-! Every cycle ended one after another, as the entry to Blocked and a service reset do it (R42, R60, R64). -/

namespace Sys2Proof.Machine

open Sys2Proof

variable {s t : State} {c d : Box} {p p' p'' : Port} {o : CycleOutcome} {cause : EndCause} {g : Option Nat → Option Nat}

/-! ## The line after several raises -/

/-- A port whose items grew from another's, its line following (R195, R198). -/
structure LineFollows (p p' : Port) : Prop where
  follows : p' = followLine { p with items := p'.items }
  grows : attentionCondition p = true → attentionCondition p' = true

theorem condition_followLine : attentionCondition (followLine p) = attentionCondition p := by
  unfold attentionCondition
  rw [items_followLine, mask_followLine]

theorem followLine_of_agrees (h : p.lineAgrees) : followLine p = p := by
  obtain ⟨hasserted, hreleased⟩ := h
  unfold followLine
  split
  next hl => rw [hreleased hl]; rfl
  next hl => rw [hasserted hl]; rfl
  next => rfl

theorem LineFollows.refl (h : p.lineAgrees) : LineFollows p p :=
  ⟨(followLine_of_agrees h).symm, id⟩

/-- The line's next state by its condition (R198). -/
def nextLine (line : AttentionLine) (condition : Bool) : AttentionLine :=
  match line with
  | .released => if condition then .asserted else .released
  | .asserted => if condition then .asserted else .holding
  | .holding => .holding

theorem followLine_eq : followLine p = { p with line := nextLine p.line (attentionCondition p) } := by
  unfold followLine nextLine
  cases hl : p.line <;> cases attentionCondition p <;> simp [← hl]

/-- A line that was Asserted only with its condition, and follows one condition and then a weaker one, stands as if it had
followed the second alone. -/
theorem nextLine_nextLine {l : AttentionLine} {x y : Bool} (hl : l = .asserted → x = true) (hxy : x = true → y = true) :
    nextLine (nextLine l x) y = nextLine l y := by
  cases x with
  | false =>
    cases l with
    | released => rfl
    | asserted => exact absurd (hl rfl) Bool.false_ne_true
    | holding => rfl
  | true =>
    rw [hxy rfl]
    cases l <;> rfl

theorem followLine_followLine {x y : BitVec 10} (h : p.lineAgrees)
    (hx : attentionCondition p = true → attentionCondition { p with items := x } = true)
    (hy : attentionCondition { p with items := x } = true → attentionCondition { p with items := y } = true) :
    followLine { followLine { p with items := x } with items := y } = followLine { p with items := y } := by
  simp only [followLine_eq]
  exact congrArg (fun l => ({ p with items := y, line := l } : Port))
    (nextLine_nextLine (fun hl => hx (h.1 hl)) hy)

theorem LineFollows.trans (hp : p.lineAgrees) (h : LineFollows p p') (h' : LineFollows p' p'') :
    LineFollows p p'' := by
  have hx : attentionCondition p' = attentionCondition { p with items := p'.items } := by
    rw [h.follows, condition_followLine, items_followLine]
  have hy : attentionCondition { p' with items := p''.items } = attentionCondition { p with items := p''.items } := by
    have hmask : p'.mask = p.mask := by rw [h.follows, mask_followLine]
    simp only [attentionCondition, hmask]
  have hgrow : attentionCondition p' = true → attentionCondition { p with items := p''.items } = true := fun hc => by
    have := h'.grows hc
    rwa [h'.follows, condition_followLine, hy] at this
  refine ⟨?_, h'.grows ∘ h.grows⟩
  calc p'' = followLine { p' with items := p''.items } := h'.follows
    _ = followLine { followLine { p with items := p'.items } with items := p''.items } := by rw [← h.follows]
    _ = followLine { p with items := p''.items } :=
      followLine_followLine hp (fun hc => hx ▸ h.grows hc) fun hc => hgrow (hx ▸ hc)

theorem lineFollows_raise {i : Item} : LineFollows s.port (raise i s).port := by
  refine ⟨?_, fun h => ?_⟩
  · change followLine _ = followLine _
    rw [items_raise]
  · change attentionCondition (followLine _) = true
    rw [condition_followLine]
    unfold attentionCondition at h ⊢
    simp only [bne_iff_ne, ne_eq] at h ⊢
    intro hz
    refine h (BitVec.eq_of_getLsbD_eq fun j hj => ?_)
    have := congrArg (fun x : BitVec 10 => x.getLsbD j) hz
    simp only [BitVec.getLsbD_and, BitVec.getLsbD_or, BitVec.getLsbD_zero] at this ⊢
    cases hi : s.port.items.getLsbD j <;> simp_all

/-! ## The end of one cycle of several -/

/-- A cycle ended, with a change of the baseline of its container. -/
def endStep (o : CycleOutcome) (cause : EndCause) (g : Option Nat → Option Nat) (s : State) (c : Box) : State :=
  (endCycle c o cause s).modHatch c fun h => { h with baseline := g h.baseline }

/-- The records of a container once its cycle ended among others. -/
def stoppedBay (cause : EndCause) (g : Option Nat → Option Nat) (polling : Bool) (len : Nat) (e : Estimate) (b : Bay) :
    Bay :=
  { endedBay cause polling len e b with
    hatch := { (endedBay cause polling len e b).hatch with baseline := g b.hatch.baseline } }

/-- The estimate record a cycle's end leaves: one deposit volume more at an Unconfirmed end without a deposit (R60). -/
def EstEnded (o : CycleOutcome) (b : Bay) (e : Estimate) : Prop :=
  e = if o = .unconfirmed ∧ ∃ k ∈ b.hatch.cycle, k.confirmed = false
    then { addVolume b.record.config b.est with closeFlag := e.closeFlag } else b.est

/-- A card refunded the charge of the cycle it is on, if there is one (R90). -/
def refunded (plans : Vector Nat 16) (ks : List Cycle) (x : CardRecord) : CardRecord :=
  match ks.find? fun k => k.card == x.number with
  | some k => { x with remaining := min plans[x.plan] (x.remaining + k.charge) }
  | none => x

theorem estEnded_volumeAtEnd {k : Cycle} (hk : (s.bay c).hatch.cycle = some k) :
    EstEnded o (s.bay c) ((volumeAtEnd c o k s).bay c).est := by
  have hiff : (o = .unconfirmed ∧ ∃ k' ∈ (s.bay c).hatch.cycle, k'.confirmed = false) ↔
      (o = .unconfirmed ∧ k.confirmed = false) := by
    refine and_congr_right fun _ => ⟨fun ⟨k', hk', h⟩ => ?_, fun h => ⟨k, hk, h⟩⟩
    obtain rfl := Option.some.inj (hk.symm.trans hk')
    exact h
  unfold EstEnded volumeAtEnd
  by_cases h : o = .unconfirmed ∧ k.confirmed = false
  · rw [if_pos h, if_pos (hiff.2 h)]
    obtain ⟨flag, l, n, e⟩ := depositVolume_frame (s := s) (c := c)
    have hbay : (depositVolume c s).bay c = _ := (bay_of_bays_eq (by rw [e])).trans bay_modBay_self
    rw [hbay]
  · rw [if_neg h, if_neg (hiff.not.2 h)]

theorem estEnded_of_none {b : Bay} (h : b.hatch.cycle = none) : EstEnded o b b.est := by
  refine (if_neg ?_).symm
  rintro ⟨-, k, hk, -⟩
  rw [h] at hk
  cases hk

theorem settledCards_eq {k : Cycle} (ho : o ≠ .deposit) :
    settledCards o k s = s.cards.map (refunded s.settings.plans [k]) := by
  rw [settledCards, if_neg ho]
  refine List.map_congr_left fun x _ => ?_
  unfold refunded
  rw [List.find?_singleton]
  by_cases hx : x.number = k.card
  · rw [if_pos hx, if_pos (beq_iff_eq.2 hx.symm)]
    rfl
  · rw [if_neg hx, if_neg fun h => hx (beq_iff_eq.1 h).symm]

theorem number_refunded {plans : Vector Nat 16} {ks : List Cycle} {x : CardRecord} :
    (refunded plans ks x).number = x.number := by
  unfold refunded
  split <;> rfl

theorem refunded_cons_self {plans : Vector Nat 16} {k : Cycle} {ks : List Cycle} {x : CardRecord}
    (h : k.card = x.number) :
    refunded plans (k :: ks) x = { x with remaining := min plans[x.plan] (x.remaining + k.charge) } := by
  unfold refunded
  rw [List.find?_cons_of_pos (p := fun k' : Cycle => k'.card == x.number) (beq_iff_eq.2 h)]

theorem refunded_cons_ne {plans : Vector Nat 16} {k : Cycle} {ks : List Cycle} {x : CardRecord}
    (h : k.card ≠ x.number) : refunded plans (k :: ks) x = refunded plans ks x := by
  unfold refunded
  rw [List.find?_cons_of_neg (by simpa using h)]

theorem refunded_of_not_mem {plans : Vector Nat 16} {ks : List Cycle} {x : CardRecord}
    (h : x.number ∉ ks.map Cycle.card) : refunded plans ks x = x := by
  have hnone : ks.find? (fun k' => k'.card == x.number) = none := by
    rw [List.find?_eq_none]
    exact fun k' hk' hc => h (List.mem_map.2 ⟨k', hk', beq_iff_eq.1 hc⟩)
  simp only [refunded, hnone]

/-- Refunds of different cards one after another are one refund by the list. -/
theorem refunded_refunded {plans : Vector Nat 16} {k : Cycle} {ks : List Cycle} {x : CardRecord}
    (h : k.card ∉ ks.map Cycle.card) : refunded plans ks (refunded plans [k] x) = refunded plans (k :: ks) x := by
  by_cases hx : k.card = x.number
  · rw [refunded_of_not_mem (by rw [number_refunded, ← hx]; exact h), refunded_cons_self hx, refunded_cons_self hx]
  · rw [refunded_cons_ne (ks := []) hx, refunded_cons_ne hx]
    rfl

/-- Which of the cycles are on a card does not depend on their order, the cards being different. -/
theorem refunded_perm {plans : Vector Nat 16} {ks ks' : List Cycle} (h : ks.Perm ks') (hn : (ks.map Cycle.card).Nodup) :
    refunded plans ks = refunded plans ks' := by
  induction h with
  | nil => rfl
  | cons k h ih =>
    obtain ⟨-, hn'⟩ := List.nodup_cons.1 hn
    funext x
    by_cases hx : k.card = x.number
    · rw [refunded_cons_self hx, refunded_cons_self hx]
    · rw [refunded_cons_ne hx, refunded_cons_ne hx, ih hn']
  | swap k k' ks =>
    have hne : k'.card ≠ k.card := fun e => (List.nodup_cons.1 hn).1 (List.mem_cons.2 (.inl e))
    funext x
    by_cases hx : k.card = x.number
    · rw [refunded_cons_ne (fun e => hne (e.trans hx.symm)), refunded_cons_self hx, refunded_cons_self hx]
    · by_cases hx' : k'.card = x.number
      · rw [refunded_cons_self hx', refunded_cons_ne hx, refunded_cons_self hx']
      · rw [refunded_cons_ne hx', refunded_cons_ne hx, refunded_cons_ne hx, refunded_cons_ne hx']
  | trans h h' ih ih' => exact (ih hn).trans (ih' ((h.map Cycle.card).nodup_iff.1 hn))

/-- What is left of a card that no cycle of the list is on. -/
theorem find_refunded {plans : Vector Nat 16} {ks : List Cycle} {n : Nat} (h : n ∉ ks.map Cycle.card)
    (l : List CardRecord) : ((l.map (refunded plans ks)).find? fun x => x.number == n).map CardRecord.remaining =
      (l.find? fun x => x.number == n).map CardRecord.remaining := by
  rw [List.find?_map]
  have hsame : ((fun x : CardRecord => x.number == n) ∘ refunded plans ks) = fun x => x.number == n := by
    funext x
    exact congrArg (· == n) number_refunded
  rw [hsame]
  cases hf : l.find? fun x => x.number == n with
  | none => rfl
  | some x =>
    have hx : x.number = n := by simpa using List.find?_some hf
    rw [Option.map_some, Option.map_some, Option.map_some, refunded_of_not_mem (hx ▸ h)]

/-- The cycles of some containers. -/
def cyclesOf (s : State) (l : List Box) : List Cycle :=
  l.filterMap fun c => (s.bay c).hatch.cycle

theorem cyclesOf_cons {k : Cycle} {l : List Box} (hk : (s.bay c).hatch.cycle = some k) :
    cyclesOf s (c :: l) = k :: cyclesOf s l :=
  List.filterMap_cons_some hk

/-- What one more stop of polling does to the records of a container, where there is one. -/
def quieted (stops : Prop) [Decidable stops] (b : Bay) : Bay :=
  if stops then stopPollingBay b else b

theorem quieted_congr {a b : Prop} [Decidable a] [Decidable b] (h : a ↔ b) {x : Bay} : quieted a x = quieted b x :=
  if_congr h rfl rfl

theorem quieted_of_not {a : Prop} [Decidable a] (h : ¬ a) {x : Bay} : quieted a x = x :=
  if_neg h

/-- A log record of one of several cycles that ended (R90, R95): of the cycle its container had, with what the card has
left. -/
def RecordsEnd (o : CycleOutcome) (s : State) (cards : List CardRecord) (r : LogRecord) : Prop :=
  r.outcome = o ∧ r.applied = 0 ∧ ∃ k ∈ (s.bay r.container).hatch.cycle,
    r.card = k.card ∧ r.household = k.household ∧ r.time = k.time ∧
    r.fraction = (s.bay r.container).record.config.fraction ∧
    r.after = (cards.find? fun x => x.number == k.card).map CardRecord.remaining

/-- What the ends of the cycles of some containers leave, and the records they append. -/
structure CyclesEnded (o : CycleOutcome) (cause : EndCause) (g : Option Nat → Option Nat) (l : List Box)
    (ended : List LogRecord) (s t : State) : Prop where
  frame : t = { s with
    bays := t.bays, bus := t.bus, openCards := t.openCards, reserved := s.reserved - l.length
    cards := s.cards.map (refunded s.settings.plans (cyclesOf s l))
    log := s.log ++ ended, nextSequence := t.nextSequence, port := t.port, orders := t.orders
    orderCounter := t.orderCounter }
  openCards : s.openCards.Perm ((cyclesOf s l).map Cycle.card) → t.openCards = []
  containers : ended.map LogRecord.container = l
  records : ∀ r ∈ ended, RecordsEnd o s (s.cards.map (refunded s.settings.plans (cyclesOf s l))) r
  sequence : t.nextSequence = if l = [] then s.nextSequence else (s.nextSequence + l.length) % 4294967296
  line : s.port.lineAgrees → LineFollows s.port t.port
  items : ∀ j < 10, t.port.items.getLsbD j =
    (s.port.items.getLsbD j || decide (j = 1 ∧ s.log.length < 768 ∧ 768 ≤ s.log.length + l.length))
  portRest : t.port = { s.port with items := t.port.items, line := t.port.line }
  orders : o ≠ .unconfirmed → t.orders = s.orders ∧ t.orderCounter = s.orderCounter
  bus : t.bus = if s.bus.state = .draining ∧ l ≠ [] then quietBus s.bus else s.bus
  bays : ∀ d, ∃ e, EstEnded o (s.bay d) e ∧ t.bay d = quieted (s.bus.state = .draining ∧ l ≠ [])
    (if d ∈ l then stoppedBay cause g (isPolling s.bus) s.settings.tCl e (s.bay d) else s.bay d)

theorem cyclesEnded_nil (h : ∀ d, (s.bay d).hatch.cycle = none) : CyclesEnded o cause g [] [] s s where
  frame := by
    have hcards : s.cards.map (refunded s.settings.plans (cyclesOf s [])) = s.cards := List.map_id _
    rw [hcards, List.append_nil]
    rfl
  openCards hp := List.perm_nil.1 hp
  containers := rfl
  records r hr := absurd hr List.not_mem_nil
  sequence := rfl
  line := LineFollows.refl
  items j hj := by
    have hnot : ¬ (j = 1 ∧ s.log.length < 768 ∧ 768 ≤ s.log.length + ([] : List Box).length) := fun ⟨_, h, h'⟩ =>
      absurd h (Nat.not_lt.2 h')
    rw [decide_eq_false hnot, Bool.or_false]
  portRest := rfl
  orders _ := ⟨rfl, rfl⟩
  bus := (if_neg fun h => h.2 rfl).symm
  bays d := by
    refine ⟨(s.bay d).est, estEnded_of_none (h d), ?_⟩
    rw [quieted, if_neg fun h => h.2 rfl, if_neg List.not_mem_nil]

theorem fields_endStep (ho : o ≠ .deposit) {k : Cycle} (hk : (s.bay c).hatch.cycle = some k) :
    endStep o cause g s c = { s with
      bays := (endStep o cause g s c).bays, bus := (endStep o cause g s c).bus
      openCards := s.openCards.erase k.card, reserved := s.reserved - 1
      cards := s.cards.map (refunded s.settings.plans [k])
      log := s.log ++ [recordOf { s with cards := s.cards.map (refunded s.settings.plans [k]) } c o k]
      nextSequence := (s.nextSequence + 1) % 4294967296
      port := if s.log.length + 1 = 768 then (raise .logHigh s).port else s.port
      orders := (volumeAtEnd c o k s).orders, orderCounter := (volumeAtEnd c o k s).orderCounter } := by
  rw [← settledCards_eq ho]
  unfold endStep
  rw [fields_endCycle hk]
  rfl

theorem bus_endStep {k : Cycle} (hk : (s.bay c).hatch.cycle = some k) : (endStep o cause g s c).bus =
    if s.bus.state = .draining ∧ ∀ d, d ≠ c → (s.bay d).hatch.cycle = none then quietBus s.bus else s.bus := by
  unfold endStep
  rw [modHatch_eq_modBay, bus_modBay]
  obtain ⟨hq, e⟩ | ⟨hq, e⟩ := endCycle_cases (o := o) (cause := cause) hk
  · rw [e, bus_enterQuiet, if_pos hq]
    rfl
  · rw [e, if_neg hq]
    rfl

theorem bay_endStep {k : Cycle} (hk : (s.bay c).hatch.cycle = some k) : (endStep o cause g s c).bay d =
    quieted (s.bus.state = .draining ∧ ∀ d, d ≠ c → (s.bay d).hatch.cycle = none)
      (if d = c then stoppedBay cause g (isPolling s.bus) s.settings.tCl ((volumeAtEnd c o k s).bay c).est (s.bay c)
      else s.bay d) := by
  unfold endStep
  rw [modHatch_eq_modBay, bay_modBay]
  obtain ⟨hq, e⟩ | ⟨hq, e⟩ := endCycle_cases (o := o) (cause := cause) hk
  · rw [e, quieted, if_pos hq, bay_enterQuiet, bay_enterQuiet, bay_cycleEnded, bay_cycleEnded, if_pos rfl]
    split <;> rfl
  · rw [e, quieted, if_neg hq, bay_cycleEnded, bay_cycleEnded, if_pos rfl]
    split <;> rfl

/-- The port after an item that may be raised. -/
theorem portAfterRaise {q : Port} {i : Item} {a : Prop} [Decidable a] (h : q = if a then (raise i s).port else s.port) :
    (s.port.lineAgrees → LineFollows s.port q) ∧ q = { s.port with items := q.items, line := q.line } ∧
    ∀ j < 10, q.items.getLsbD j = (s.port.items.getLsbD j || decide (j = itemBit i ∧ a)) := by
  subst h
  by_cases ha : a
  · rw [if_pos ha]
    refine ⟨fun _ => lineFollows_raise, ?_, fun j hj => ?_⟩
    · obtain ⟨x, l, e⟩ := raise_frame (i := i) (s := s)
      rw [e]
    · rw [getLsbD_raise hj]
      simp [ha]
  · rw [if_neg ha]
    exact ⟨LineFollows.refl, rfl, fun j hj => by simp [ha]⟩

/-- The port after one cycle's record: LogHigh raised by the append that fills the log to 768 (R97). -/
theorem portAfterRecord {q : Port} (h : q = if s.log.length + 1 = 768 then (raise .logHigh s).port else s.port) :
    (s.port.lineAgrees → LineFollows s.port q) ∧ q = { s.port with items := q.items, line := q.line } ∧
    ∀ j < 10, q.items.getLsbD j = (s.port.items.getLsbD j || decide (j = 1 ∧ s.log.length + 1 = 768)) :=
  portAfterRaise h

/-- One cycle more: the end of the first, then those of the others. -/
theorem cyclesEnded_cons (ho : o ≠ .deposit) {k : Cycle} {l : List Box} {ended : List LogRecord}
    (hk : (s.bay c).hatch.cycle = some k) (hc : c ∉ l) (hl : ∀ d, (s.bay d).hatch.cycle ≠ none ↔ d ∈ c :: l)
    (hcards : ((cyclesOf s (c :: l)).map Cycle.card).Nodup)
    (h : CyclesEnded o cause g l ended (endStep o cause g s c) t) :
    CyclesEnded o cause g (c :: l)
      (recordOf { s with cards := s.cards.map (refunded s.settings.plans [k]) } c o k :: ended) s t := by
  have hfields := fields_endStep (cause := cause) (g := g) ho hk
  have hbay (d : Box) := bay_endStep (o := o) (cause := cause) (g := g) (d := d) hk
  have hbus := bus_endStep (o := o) (cause := cause) (g := g) hk
  have hcycles : cyclesOf s (c :: l) = k :: cyclesOf s l := cyclesOf_cons hk
  have hknot : k.card ∉ (cyclesOf s l).map Cycle.card := by
    rw [hcycles, List.map_cons] at hcards
    exact (List.nodup_cons.1 hcards).1
  have hquiet : (s.bus.state = .draining ∧ ∀ d, d ≠ c → (s.bay d).hatch.cycle = none) ↔
      s.bus.state = .draining ∧ l = [] := by
    refine and_congr_right fun _ => ⟨fun hn => ?_, fun e d hd => ?_⟩
    · refine List.eq_nil_iff_forall_not_mem.2 fun d hd => ?_
      have hdc : d ≠ c := fun e => hc (e ▸ hd)
      exact (hl d).2 (List.mem_cons_of_mem c hd) (hn d hdc)
    · by_contra hcyc
      have := (hl d).1 hcyc
      rw [e, List.mem_singleton] at this
      exact hd this
  generalize hu : endStep o cause g s c = u at *
  have hrest (d : Box) (hd : d ∈ l) : u.bay d = s.bay d := by
    rw [hbay, quieted, if_neg fun h => List.ne_nil_of_mem hd (hquiet.1 h).2, if_neg fun e : d = c => hc (e ▸ hd)]
  have hcyclesU : cyclesOf u l = cyclesOf s l := List.filterMap_congr fun d hd => by rw [hrest d hd]
  have hsettings : u.settings = s.settings := by rw [hfields]
  have hucards : u.cards = s.cards.map (refunded s.settings.plans [k]) := by rw [hfields]
  have hulog : u.log = s.log ++ [recordOf { s with cards := s.cards.map (refunded s.settings.plans [k]) } c o k] := by
    rw [hfields]
  have hcardsU : u.cards.map (refunded u.settings.plans (cyclesOf u l)) =
      s.cards.map (refunded s.settings.plans (cyclesOf s (c :: l))) := by
    rw [hucards, hsettings, hcyclesU, hcycles, List.map_map]
    exact List.map_congr_left fun x _ => refunded_refunded hknot
  obtain ⟨hline, hport, hitems⟩ := portAfterRecord (s := s) (q := u.port) (by rw [hfields])
  refine ⟨?_, fun hp => h.openCards ?_, ?_, ?_, ?_, fun hs => (hline hs).trans hs ?_, ?_, ?_, ?_, ?_, ?_⟩
  · refine h.frame.trans ?_
    rw [hcardsU, hulog, hfields]
    simp [Nat.sub_sub, Nat.add_comm]
  · rw [hcycles, List.map_cons] at hp
    have hopen : u.openCards = s.openCards.erase k.card := by rw [hfields]
    rw [hopen, hcyclesU]
    exact (List.cons_perm_iff_perm_erase.1 hp.symm).2.symm
  · rw [List.map_cons, h.containers]
    rfl
  · intro r hr
    rcases List.mem_cons.1 hr with rfl | hr
    · refine ⟨rfl, if_neg ho, k, hk, rfl, rfl, rfl, rfl, ?_⟩
      rw [← hcardsU, find_refunded (by rw [hcyclesU]; exact hknot), hucards]
      rfl
    · obtain ⟨h₁, h₂, h₃⟩ := h.records r hr
      have hmem : r.container ∈ l := h.containers ▸ List.mem_map_of_mem hr
      rw [hrest _ hmem, hcardsU] at h₃
      exact ⟨h₁, h₂, h₃⟩
  · have hseq : u.nextSequence = (s.nextSequence + 1) % 4294967296 := by rw [hfields]
    rw [h.sequence, hseq, if_neg (List.cons_ne_nil c l), List.length_cons]
    split
    next e => rw [e]; rfl
    next => omega
  · exact h.line ((hline hs).follows ▸ lineAgrees_followLine)
  · intro j hj
    rw [h.items j hj, hitems j hj, hulog, List.length_append, List.length_cons, List.length_cons, List.length_nil,
      Bool.or_assoc, ← Bool.decide_or]
    refine congrArg _ (decide_eq_decide.2 ?_)
    omega
  · rw [h.portRest, hport]
  · intro hou
    have hvol : volumeAtEnd c o k s = s := if_neg fun h => hou h.1
    have horders : u.orders = s.orders ∧ u.orderCounter = s.orderCounter := by
      rw [hfields, hvol]
      exact ⟨rfl, rfl⟩
    exact ⟨(h.orders hou).1.trans horders.1, (h.orders hou).2.trans horders.2⟩
  · rw [h.bus]
    by_cases hnil : l = []
    · rw [if_neg fun h => h.2 hnil, hbus]
      exact if_congr (hquiet.trans (and_congr_right fun _ => iff_of_true hnil (List.cons_ne_nil c l))) rfl rfl
    · have hsame : u.bus = s.bus := hbus.trans (if_neg fun h => hnil (hquiet.1 h).2)
      rw [hsame]
      exact if_congr (and_congr_right fun _ => iff_of_true hnil (List.cons_ne_nil c l)) rfl rfl
  · intro d
    obtain ⟨e, he, hd⟩ := h.bays d
    have hnone (hdc : d ≠ c) (hdl : d ∉ l) : (s.bay d).hatch.cycle = none := by
      by_contra hcyc
      exact ((List.mem_cons.1 ((hl d).1 hcyc)).elim hdc hdl)
    by_cases hnil : l = []
    · have hlast : t.bay d = u.bay d := hd.trans (by
        rw [quieted_of_not fun h => h.2 hnil, hnil, if_neg List.not_mem_nil])
      have hq : (s.bus.state = .draining ∧ ∀ d, d ≠ c → (s.bay d).hatch.cycle = none) ↔
          s.bus.state = .draining ∧ c :: l ≠ [] :=
        hquiet.trans (and_congr_right fun _ => iff_of_true hnil (List.cons_ne_nil c l))
      rw [hlast, hbay, quieted_congr hq]
      by_cases hdc : d = c
      · subst hdc
        exact ⟨_, estEnded_volumeAtEnd hk, by rw [if_pos rfl, if_pos List.mem_cons_self]⟩
      · have hdl : d ∉ l := hnil ▸ List.not_mem_nil
        refine ⟨_, estEnded_of_none (hnone hdc hdl), ?_⟩
        rw [if_neg hdc, if_neg fun h => (List.mem_cons.1 h).elim hdc hdl]
    · have hnot : ¬ (s.bus.state = .draining ∧ ∀ d, d ≠ c → (s.bay d).hatch.cycle = none) :=
        fun h => hnil (hquiet.1 h).2
      have hsame : u.bus = s.bus := hbus.trans (if_neg hnot)
      have hq : (s.bus.state = .draining ∧ l ≠ []) ↔ s.bus.state = .draining ∧ c :: l ≠ [] :=
        and_congr_right fun _ => iff_of_true hnil (List.cons_ne_nil c l)
      rw [hsame, hsettings, hbay, quieted_of_not hnot, quieted_congr hq] at hd
      rw [hd]
      by_cases hdc : d = c
      · subst hdc
        exact ⟨_, estEnded_volumeAtEnd hk, by rw [if_neg hc, if_pos rfl, if_pos List.mem_cons_self]⟩
      · rw [if_neg hdc]
        refine ⟨e, ?_, congrArg _ (if_congr ?_ rfl rfl)⟩
        · rwa [hbay, quieted_of_not hnot, if_neg hdc] at he
        · exact ⟨List.mem_cons_of_mem c, fun h => (List.mem_cons.1 h).resolve_left hdc⟩

/-- The cycles of some containers ended one after another, those being all the cycles there are. -/
theorem cyclesEnded_foldl (ho : o ≠ .deposit) : ∀ (l : List Box) (s : State), l.Nodup →
    (∀ d, (s.bay d).hatch.cycle ≠ none ↔ d ∈ l) → ((cyclesOf s l).map Cycle.card).Nodup →
    ∃ ended, CyclesEnded o cause g l ended s (l.foldl (endStep o cause g) s)
  | [], s, _, hl, _ => ⟨[], cyclesEnded_nil fun d => by
      by_contra h
      exact List.not_mem_nil ((hl d).1 h)⟩
  | c :: l, s, hn, hl, hcards => by
    obtain ⟨hc, hn'⟩ := List.nodup_cons.1 hn
    obtain ⟨k, hk⟩ := Option.ne_none_iff_exists'.1 ((hl c).2 List.mem_cons_self)
    have hcycle (d : Box) : ((endStep o cause g s c).bay d).hatch.cycle = if d = c then none else (s.bay d).hatch.cycle := by
      rw [endStep, modHatch_eq_modBay, bay_modBay, ← cycle_endCycle_eq (o := o) (cause := cause)]
      split
      next hd => rw [hd]
      next => rfl
    have hl' (d : Box) : ((endStep o cause g s c).bay d).hatch.cycle ≠ none ↔ d ∈ l := by
      rw [hcycle]
      by_cases hd : d = c
      · subst hd
        simp [hc]
      · rw [if_neg hd, hl, List.mem_cons]
        exact or_iff_right hd
    have hcyc : cyclesOf (endStep o cause g s c) l = cyclesOf s l := List.filterMap_congr fun d hd => by
      rw [hcycle, if_neg fun e : d = c => hc (e ▸ hd)]
    have hcards' : ((cyclesOf (endStep o cause g s c) l).map Cycle.card).Nodup := by
      rw [hcyc]
      rw [cyclesOf_cons hk, List.map_cons] at hcards
      exact (List.nodup_cons.1 hcards).2
    obtain ⟨ended, h⟩ := cyclesEnded_foldl ho l (endStep o cause g s c) hn' hl' hcards'
    exact ⟨_, cyclesEnded_cons ho hk hc hl hcards h⟩

end Sys2Proof.Machine
end

section
/-! The entry to Blocked, and a service reset's cycles (R42, R60, R64). -/

namespace Sys2Proof.Machine

open Sys2Proof

variable {s t : State} {c d : Box}

/-! ## All the cycles there are -/

theorem nodup_freeOrder {n : Nat} : (freeOrder n (activeBoxes s)).Nodup :=
  (freeOrder_perm _).nodup_iff.2 ((List.nodup_finRange 32).filter _)

theorem cycle_ne_none_iff_mem_freeOrder {n : Nat} :
    (s.bay d).hatch.cycle ≠ none ↔ d ∈ freeOrder n (activeBoxes s) := by
  rw [mem_freeOrder, mem_activeBoxes, cycleActive_iff]

/-- The cycles in a free order are those of the part, in another order. -/
theorem cyclesOf_freeOrder_perm {n : Nat} :
    (cyclesOf s (freeOrder n (activeBoxes s))).Perm (cyclesOf s allBoxes) := by
  have hactive : cyclesOf s (activeBoxes s) = cyclesOf s allBoxes := by
    unfold cyclesOf activeBoxes
    rw [List.filterMap_filter]
    refine List.filterMap_congr fun c _ => ?_
    split
    next => rfl
    next h => exact (Option.not_isSome_iff_eq_none.1 h).symm
  rw [← hactive]
  exact (freeOrder_perm _).filterMap _

theorem activeCards_eq : activeCards s = (cyclesOf s allBoxes).map Cycle.card := by
  rw [cyclesOf, List.map_filterMap]
  rfl

theorem length_cyclesOf : ∀ l : List Box, (∀ c ∈ l, (s.bay c).hatch.cycle ≠ none) → (cyclesOf s l).length = l.length
  | [], _ => rfl
  | c :: l, h => by
    obtain ⟨k, hk⟩ := Option.ne_none_iff_exists'.1 (h c List.mem_cons_self)
    rw [cyclesOf_cons hk, List.length_cons, List.length_cons,
      length_cyclesOf l fun d hd => h d (List.mem_cons_of_mem c hd)]

/-- Where the open-card set matches the cycles (R71), the facts the ends of all the cycles need. -/
theorem cards_of_cyclesAgree {n : Nat} (h : s.cyclesAgree) :
    s.openCards.Perm ((cyclesOf s (freeOrder n (activeBoxes s))).map Cycle.card) ∧
    ((cyclesOf s (freeOrder n (activeBoxes s))).map Cycle.card).Nodup ∧
    s.openCards.length = (freeOrder n (activeBoxes s)).length ∧
    s.reserved = (freeOrder n (activeBoxes s)).length := by
  obtain ⟨hperm, hnodup, hreserved⟩ := h
  have hp : s.openCards.Perm ((cyclesOf s (freeOrder n (activeBoxes s))).map Cycle.card) :=
    hperm.trans (activeCards_eq ▸ (cyclesOf_freeOrder_perm.map _).symm)
  have hlen : s.openCards.length = (freeOrder n (activeBoxes s)).length := by
    rw [hp.length_eq, List.length_map, length_cyclesOf _ fun c hc => cycle_ne_none_iff_mem_freeOrder.2 hc]
  exact ⟨hp, hp.nodup_iff.1 hnodup, hlen, hreserved.trans hlen⟩

/-! ## The entry to Blocked -/

/-- The state in which the cycles end at the entry to Blocked. -/
def blocking (s : State) : State :=
  { s with bus := blockedBus s.bus, draws := s.draws + 1 }

/-- The state after those ends. -/
def blockedEnds (s : State) : State :=
  (freeOrder s.draws (activeBoxes s)).foldl (endStep .unconfirmed .other fun _ => none) (blocking s)

theorem blockedState_eq : blockedState s = (blockedEnds s).mapBays stopPollingBay := rfl

theorem cyclesEnded_blockedEnds (h : s.cyclesAgree) : ∃ ended, CyclesEnded .unconfirmed .other (fun _ => none)
    (freeOrder s.draws (activeBoxes s)) ended (blocking s) (blockedEnds s) :=
  cyclesEnded_foldl (by simp) _ (blocking s) nodup_freeOrder (fun _ => cycle_ne_none_iff_mem_freeOrder (s := s))
    (cards_of_cyclesAgree h).2.1

theorem stuckLine_keeps (h : s.bus.state = .blocked ∨ s.bus.level = .idle) : exec .stuckLineDetected s = .next s := by
  refine congrArg Host.Outcome.next (if_neg fun hb => ?_)
  obtain ⟨hs, hl⟩ := Bool.and_eq_true_iff.1 hb
  rcases h with e | e
  · rw [e] at hs
    cases hs
  · rw [e] at hl
    cases hl

theorem stuckLine_blocks (hs : s.bus.state ≠ .blocked) (hl : s.bus.level = .active) :
    exec .stuckLineDetected s = .next (raise .lineStuck (setBusFlag .stuckSeen (blockedState s))) :=
  congrArg Host.Outcome.next (if_pos (Bool.and_eq_true_iff.2 ⟨bne_iff_ne.2 hs, beq_iff_eq.2 hl⟩))

/-- The records of a container after the entry to Blocked, with the estimate record of its cycle's end. -/
theorem bay_blockedState (h : s.cyclesAgree) : ∃ e, EstEnded .unconfirmed (s.bay d) e ∧ (blockedState s).bay d =
    stopPollingBay (if (s.bay d).hatch.cycle = none then s.bay d
      else stoppedBay .other (fun _ => none) false s.settings.tCl e (s.bay d)) := by
  obtain ⟨ended, hends⟩ := cyclesEnded_blockedEnds h
  obtain ⟨e, he, hd⟩ := hends.bays d
  refine ⟨e, he, ?_⟩
  have hnot : ¬ ((blocking s).bus.state = .draining ∧ freeOrder s.draws (activeBoxes s) ≠ []) := fun h => by
    cases h.1
  rw [quieted_of_not hnot] at hd
  rw [blockedState_eq, bay_mapBays, hd]
  refine congrArg stopPollingBay ?_
  by_cases hc : (s.bay d).hatch.cycle = none
  · rw [if_pos hc, if_neg fun hm => cycle_ne_none_iff_mem_freeOrder.2 hm hc]
    rfl
  · rw [if_neg hc, if_pos (cycle_ne_none_iff_mem_freeOrder.1 hc)]
    rfl

theorem stuckSeen_flags {x : BitVec 6} : x ||| BitVec.twoPow 6 (busFlagBit .stuckSeen) = x ||| 32#6 :=
  rfl

/-- The flag, the item and a change at every container, one block each. -/
theorem stuck_mapBays {f : Bay → Bay} : raise .lineStuck (setBusFlag .stuckSeen (s.mapBays f)) = { s with
    bays := Vector.ofFn fun c : Box => f (s.bay c)
    bus := { s.bus with flags := s.bus.flags ||| BitVec.twoPow 6 (busFlagBit .stuckSeen) }
    port := (raise .lineStuck s).port } := by
  simp only [raise, setBusFlag, State.mapBays]

/-- The state after the entry to Blocked, from the one after the ends of the cycles. -/
def enteredBlocked (s : State) : State :=
  { blockedEnds s with
    bays := Vector.ofFn fun c : Box => stopPollingBay ((blockedEnds s).bay c)
    bus := { blockedBus s.bus with flags := s.bus.flags ||| 32#6 }
    port := (raise .lineStuck (blockedEnds s)).port }

theorem bay_enteredBlocked : (enteredBlocked s).bay c = stopPollingBay ((blockedEnds s).bay c) :=
  bay_mapBays (s := blockedEnds s)

theorem enteredBlocked_eq :
    raise .lineStuck (setBusFlag .stuckSeen (blockedState s)) = enteredBlocked s := by
  have hbus : (blockedEnds s).bus = blockedBus s.bus := by
    have h := bus_blockedState (s := s)
    rwa [blockedState_eq, bus_mapBays] at h
  have hflags : (blockedBus s.bus).flags = s.bus.flags := rfl
  rw [blockedState_eq, stuck_mapBays, stuckSeen_flags, hbus, hflags, enteredBlocked]

/-- Settles O42: the cycles ended one after another by `CyclesEnded`, then what the entry drops. -/
theorem stuckLineBlocksTheBus : Obligations.StuckLineBlocksTheBus := by
  refine fun s => ⟨stuckLine_keeps, fun hs hl hcyc => ?_⟩
  intro ending blocked paused
  obtain ⟨hperm, hnodup, hopen, hreserved⟩ := cards_of_cyclesAgree (n := s.draws) hcyc
  obtain ⟨ended, hends⟩ := cyclesEnded_blockedEnds hcyc
  have hblocked : blockedBus s.bus = blocked := by
    simp only [blockedBus, blocked]
    congr 1
    split <;> rfl
  have hframe := hends.frame
  have hopenCards := hends.openCards hperm
  have hcards : (blockedEnds s).cards = s.cards.map (refunded s.settings.plans (cyclesOf s allBoxes)) := by
    rw [hframe, ← refunded_perm cyclesOf_freeOrder_perm hnodup]
    rfl
  have hpaused (b : Bay) : stopPollingBay b = paused b := rfl
  have hlast : (blockedEnds s).draws = s.draws + 1 := by rw [hframe]; rfl
  refine ⟨enteredBlocked s, (stuckLine_blocks hs hl).trans (congrArg Host.Outcome.next enteredBlocked_eq), ?_⟩
  refine ⟨⟨freeOrder s.draws (activeBoxes s), freeOrder_perm _, ?_⟩, ?_, ?_, ?_, ?_, ⟨ended, ?_, ?_, ?_, fun r hr => ?_⟩,
    ?_, ?_, ?_, ?_, ?_, ?_, ?_, fun c => ?_⟩
  · intro u
    have hstart : ({ s with bus := blocked, draws := (enteredBlocked s).draws } : State) = blocking s := by
      rw [← hblocked, enteredBlocked, hlast]
      rfl
    have hu : u = blockedEnds s := congrArg (fun v => (freeOrder s.draws (activeBoxes s)).foldl
      (endStep .unconfirmed .other fun _ => none) v) hstart
    rw [hu, ← hblocked]
    rfl
  · rw [← hblocked]
    rfl
  · rw [enteredBlocked, hopenCards]
  · rw [enteredBlocked, hframe]
    change s.reserved - _ = 0
    rw [hreserved, Nat.sub_self]
  · rw [enteredBlocked]
    exact hcards
  · rw [enteredBlocked, hframe]
    rfl
  · rw [hopen, ← hends.containers, List.length_map]
  · rw [hends.containers]
    exact freeOrder_perm _
  · obtain ⟨houtcome, happlied, k, hk, hr⟩ := hends.records r hr
    refine ⟨houtcome, happlied, k, hk, ?_⟩
    rw [enteredBlocked, hcards]
    rwa [← refunded_perm cyclesOf_freeOrder_perm hnodup]
  · rw [enteredBlocked]
    exact getLsbD_raise_self (i := .lineStuck) (s := blockedEnds s)
  · rw [enteredBlocked, hframe]; rfl
  · rw [enteredBlocked, hframe]; rfl
  · rw [enteredBlocked, hframe]; rfl
  · rw [enteredBlocked, hframe]; rfl
  · rw [enteredBlocked, hframe]; rfl
  · rw [enteredBlocked, hframe]; rfl
  · obtain ⟨e, he, hc⟩ := bay_blockedState (d := c) hcyc
    rw [blockedState_eq, bay_mapBays, ← bay_enteredBlocked] at hc
    rw [hc]
    by_cases hk : (s.bay c).hatch.cycle = none
    · rw [if_pos hk]
      exact ⟨rfl, rfl, rfl, hk, rfl, fun n => not_running_holdTimer,
        fun _ => ⟨rfl, rfl, rfl, Option.map_eq_none_iff⟩, fun k h => absurd (hk.symm.trans h) (by simp)⟩
    · rw [if_neg hk]
      refine ⟨rfl, rfl, rfl, rfl, rfl, fun n => not_running_holdTimer, fun h => absurd h hk, fun k hk' => ?_⟩
      refine ⟨rfl, ?_, ?_, fun hreq => ?_⟩
      · exact fun h => startedDemand_ne_none (Option.map_eq_none_iff.1 h)
      · change e = { (if k.confirmed = true then (s.bay c).est
          else addVolume (s.bay c).record.config (s.bay c).est) with closeFlag := e.closeFlag }
        by_cases hconf : k.confirmed = true
        · have hkeep : e = (s.bay c).est := by
            refine he.trans (if_neg ?_)
            rintro ⟨-, k', hk'', hn⟩
            obtain rfl := Option.some.inj (hk'.symm.trans hk'')
            rw [hconf] at hn
            cases hn
          rw [if_pos hconf, hkeep]
        · rw [if_neg hconf]
          exact he.trans (if_pos ⟨rfl, k, hk', Bool.not_eq_true _ ▸ hconf⟩)
      · change endQuiescence .other (s.bay c).hold = _
        rw [endQuiescence, if_pos hreq]
        simp

end Sys2Proof.Machine
end

section
/-! The vehicle link: refusals, Status, Claim, Lift Report and Release (R168 to R179). -/

namespace Sys2Proof.Machine

open Sys2Proof

variable {s t : State} {c d : Box} {vid : Half} {act : State → Handled} {status : LinkStatus} {body : ReplyBody}

/-! ## Frames taken -/

theorem restartDock_eq : restartDock vid s = { s with dock := s.dock.map fun d =>
    if d.vehicle = vid.toNat then { d with tDock := s.settings.tDock } else d } := by
  unfold restartDock
  split
  next h => rw [h, Option.map_none, ← h]
  next d h =>
    rw [h, Option.map_some]
    by_cases hv : d.vehicle = vid.toNat
    · rw [if_pos hv, if_pos hv]
    · rw [if_neg hv, if_neg hv, ← h]

/-- The reply to a message by what handling it came to. -/
theorem answerMessage_eq (h : act (restartDock vid s) = ⟨t, status, body⟩) :
    answerMessage vid act s = { t with reply := some ⟨status, holdList t vid.toNat, body⟩ } := by
  rw [answerMessage, h]

theorem answerMessage_turnedAway (h : act (restartDock vid s) = turnAway status (restartDock vid s)) :
    answerMessage vid act s = turnedAway vid status s := by
  rw [answerMessage, h]
  rfl

/-- The docked vehicle's dock record, with T_dock restarted by its frame. -/
theorem dockedAs_restartDock_some {k : DockRecord} (hd : s.dock = some k) (hv : k.vehicle = vid.toNat) :
    dockedAs vid (restartDock vid s) = some { k with tDock := s.settings.tDock } := by
  rw [dockedAs, restartDock_eq, hd, Option.map_some, if_pos hv]
  exact Option.filter_some_pos (by simpa using hv)

theorem dockedAs_restartDock_none (h : ∀ k ∈ s.dock, k.vehicle ≠ vid.toNat) :
    dockedAs vid (restartDock vid s) = none := by
  rw [dockedAs, restartDock_eq]
  refine Option.filter_eq_none_iff.2 fun k hk => ?_
  obtain ⟨k', hk', rfl⟩ := Option.map_eq_some_iff.1 hk
  have hne := h k' hk'
  rw [if_neg hne]
  simpa using hne

/-- A frame that does not fit, or without an id (R168). -/
theorem badFrame {fits : Bool} (h : fits = false ∨ vid = 0#16) : (!fits || vid == 0#16) = true := by
  rcases h with rfl | rfl <;> simp

theorem goodFrame (h : vid ≠ 0#16) : ¬ (!true || vid == 0#16) = true := by
  simpa using h

theorem messageBox_none {fits : Bool} {byte : Byte} (h : fits = false ∨ vid = 0#16 ∨ 32 ≤ byte.toNat) :
    messageBox fits vid byte = none := by
  unfold messageBox
  split
  next hf =>
    obtain ⟨hfits, hvid⟩ := Bool.and_eq_true_iff.1 hf
    rcases h with rfl | rfl | h
    · cases hfits
    · simp at hvid
    · exact boxOf_of_ge h
  next => rfl

theorem messageBox_some (h : vid ≠ 0#16) : messageBox true vid (byteOf c) = some c := by
  rw [messageBox, if_pos (by simpa using h)]
  exact boxOf_ofNat

/-! ## Status and frames that are no message -/

theorem claimedNumber_eq {v : Nat} : claimedNumber s c v =
    ((s.orders.find? fun o => o.container == c).filter fun o =>
      o.state == .claimed && o.vehicle == some v).map Order.number := by
  unfold claimedNumber
  have hfind : s.orderOf c = s.orders.find? fun o => o.container == c := rfl
  rw [← hfind]
  cases s.orderOf c with
  | none => rfl
  | some o =>
    dsimp only
    by_cases h : o.state = .claimed ∧ o.vehicle = some v
    · rw [if_pos h, Option.filter_some_pos (by simp [h.1, h.2])]
      rfl
    · rw [if_neg h, Option.filter_some_neg (by simpa using h)]
      rfl

/-- Settles O45: each frame by whether it fits, and the hold list entry by entry. -/
theorem statusAndUnknownMessages : Obligations.StatusAndUnknownMessages := by
  refine fun s vid => ⟨restartDock_eq, rfl, congrArg Host.Outcome.next (answerMessage_turnedAway rfl), fun fits h => ?_,
    fun h => ?_, ?_, fun e he => ?_⟩
  · exact congrArg Host.Outcome.next (answerMessage_turnedAway (if_pos (badFrame h)))
  · exact congrArg Host.Outcome.next (answerMessage_turnedAway (if_neg (goodFrame h)))
  · rw [holdList, List.map_map]
    exact List.map_id _
  · obtain ⟨c, -, rfl⟩ := List.mem_map.1 he
    exact ⟨claimState_eq, rfl, claimedNumber_eq⟩

/-! ## Claim -/

theorem claimBody_eq {v : Nat} : claimBody v c s = .claimed c
    (if (s.bay c).hatch.cycle ≠ none then .quiescing else if (s.bay c).hold.forced = true then .heldForced else .held)
    (((s.orders.find? fun o => o.container == c).filter fun o =>
      o.state == .claimed && o.vehicle == some v).map Order.number) := by
  rw [claimBody, claimState_eq, claimedNumber_eq]

theorem claimHold_eq {v len : Nat} {b : Bay} : claimHold v b.cycleActive len b.hold =
    { b.hold with
      emptying := some v, orphan := false, reported := false, forced := b.hold.service && b.hold.forced
      tQ := if b.hatch.cycle ≠ none ∧ b.hold.tQ = none then some len else b.hold.tQ } := by
  unfold claimHold startQuiescence
  by_cases h : b.hatch.cycle ≠ none ∧ b.hold.tQ = none
  · rw [if_pos h, if_pos (by simp [cycleActive_iff, h.1, h.2])]
  · rw [if_neg h, if_neg (by simpa [cycleActive_iff, Option.isNone_iff_eq_none] using h)]

theorem bindOrder_some {v : Nat} (h : ∃ o ∈ s.orders, o.container = c) : bindOrder c v s =
    s.modOrder c fun o => { o with state := .claimed, vehicle := some v } := by
  unfold bindOrder
  cases ho : s.orderOf c with
  | none =>
    obtain ⟨o, hmem, hc⟩ := h
    exact absurd hc (orderOf_eq_none.1 ho o hmem)
  | some o => rfl

theorem bindOrder_none {v : Nat} (h : ∀ o ∈ s.orders, o.container ≠ c) :
    bindOrder c v s = createOrder (adHocOrder c v) s := by
  unfold bindOrder
  rw [orderOf_eq_none.2 h]

/-- A claim changes the order list with its counter and the hold record. -/
theorem bindOrder_frame {v : Nat} : bindOrder c v s =
    { s with orders := (bindOrder c v s).orders, orderCounter := (bindOrder c v s).orderCounter } := by
  unfold bindOrder
  split <;> rfl

/-- A claim's order and hold record (R177). -/
theorem takeClaim_eq {v len : Nat} {b : Bay} {bays : Vector Bay 32} (hb : s.bay c = b) (hlen : s.settings.tQ = len)
    (hbays : s.bays = bays) : takeClaim v c s = { s with
    bays := bays.set c { b with hold :=
      { b.hold with
        emptying := some v, orphan := false, reported := false, forced := b.hold.service && b.hold.forced
        tQ := if b.hatch.cycle ≠ none ∧ b.hold.tQ = none then some len else b.hold.tQ } }
    orders := (bindOrder c v s).orders, orderCounter := (bindOrder c v s).orderCounter } := by
  subst hb hlen hbays
  rw [← claimHold_eq]
  exact (congrArg (fun w : State => w.modHold c (claimHold v (s.bay c).cycleActive s.settings.tQ)) bindOrder_frame).trans rfl

/-- Settles O48: the checks one after another, then the claim's order and hold. -/
theorem claimBindsAndHolds : Obligations.ClaimBindsAndHolds := by
  intro s vid c b n active u body
  have hbody (t : State) (h : (t.bay c).hatch.cycle = b.hatch.cycle) : claimBody vid.toNat c t = body t := by
    rw [claimBody_eq, h]
  obtain ⟨x, hu⟩ := restartDock_frame (s := s) (vid := vid)
  have hub : (restartDock vid s).bay c = b := by rw [hu]; rfl
  refine ⟨fun fits byte h => ?_, fun hvid => ⟨fun h => ?_, fun k hk hkv => ?_⟩⟩
  · refine congrArg Host.Outcome.next (answerMessage_turnedAway ?_)
    rw [handleClaim, messageBox_none h]
  · refine congrArg Host.Outcome.next (answerMessage_turnedAway ?_)
    rw [handleClaim, messageBox_some hvid]
    dsimp only
    rw [dockedAs_restartDock_none h]
  · intro suits
    have hhandle : handleClaim true vid (byteOf c) u =
        if !b.record.started then turnAway .notStarted u
        else if !inFractions b.record.config.fraction k.fractions then turnAway .wrongFraction u
        else match b.hold.emptying with
          | some v => if v = vid.toNat then ⟨u, .ok, claimBody vid.toNat c u⟩ else turnAway .heldOther u
          | none => ⟨takeClaim vid.toNat c u, .ok, claimBody vid.toNat c (takeClaim vid.toNat c u)⟩ := by
      rw [handleClaim, messageBox_some hvid]
      dsimp only
      rw [dockedAs_restartDock_some hk hkv]
      dsimp only
      rw [hub, hkv] <;> rfl
    have hsuits : inFractions b.record.config.fraction k.fractions = true ↔ suits := Iff.rfl
    refine ⟨fun h => ?_, fun h hn => ?_, fun v h hs he hv => ?_, fun h hs he => ?_, fun h hs he => ?_⟩
    · refine congrArg Host.Outcome.next (answerMessage_turnedAway ?_)
      rw [hhandle, if_pos (by rw [h]; rfl)]
    · refine congrArg Host.Outcome.next (answerMessage_turnedAway ?_)
      rw [hhandle, if_neg (by simp [h]), if_pos (by simpa using hsuits.not.2 hn)]
    · refine congrArg Host.Outcome.next (answerMessage_turnedAway ?_)
      rw [hhandle, if_neg (by simp [h]), if_neg (by simpa using hsuits.2 hs), he]
      exact if_neg hv
    · refine congrArg Host.Outcome.next ((answerMessage_eq (t := u) (status := .ok) (body := body u) ?_).trans rfl)
      rw [hhandle, if_neg (by simp [h]), if_neg (by simpa using hsuits.2 hs), he, ← hbody u (by rw [hub])]
      exact if_pos rfl
    · have hclaim : handleClaim true vid (byteOf c) u =
          ⟨takeClaim vid.toNat c u, .ok, claimBody vid.toNat c (takeClaim vid.toNat c u)⟩ := by
        rw [hhandle, if_neg (by simp [h]), if_neg (by simpa using hsuits.2 hs), he]
      have hset : u.settings = s.settings := by
        change (restartDock vid s).settings = _
        rw [hu]
      have hbays : u.bays = s.bays := by
        change (restartDock vid s).bays = _
        rw [hu]
      have horders : u.orders = s.orders := by
        change (restartDock vid s).orders = _
        rw [hu]
      have hcounter : u.orderCounter = s.orderCounter := by
        change (restartDock vid s).orderCounter = _
        rw [hu]
      have htake := takeClaim_eq (c := c) (s := u) (v := vid.toNat) hub (congrArg Settings.tQ hset) hbays
      have hactive : ((takeClaim vid.toNat c u).bay c).hatch.cycle = b.hatch.cycle := by
        rw [htake]
        simp [State.bay]
      refine ⟨_, congrArg Host.Outcome.next (answerMessage_eq hclaim), ?_, fun hex => ?_, fun hno => ?_⟩
      · rw [hbody _ hactive, htake]
        rfl
      · have hex' : ∃ o ∈ u.orders, o.container = c := by rwa [horders]
        rw [htake, bindOrder_some hex']
        exact ⟨hcounter, congrArg (List.map _) horders⟩
      · have hno' : ∀ o ∈ u.orders, o.container ≠ c := by rwa [horders]
        have hn : assignedNumber u = n := by
          rw [assignedNumber, horders, hcounter]
          rfl
        rw [htake, bindOrder_none hno', createOrder, hn, horders]
        exact ⟨rfl, rfl⟩

/-! ## Release -/

theorem isSome_claimedNumber {v : Nat} : (claimedNumber s c v).isSome = true ↔
    ∃ o, s.orderOf c = some o ∧ o.state = .claimed ∧ o.vehicle = some v := by
  rw [Option.isSome_iff_ne_none, ne_eq, claimedNumber_eq_none]
  simp only [not_forall, not_not, exists_prop]

/-- A taken Release, the hold released first (R179). -/
theorem releaseClaim_eq {v : Nat} : releaseClaim v c s =
    if (claimedNumber s c v).isSome then returnOrder c (s.modHold c releasedHold) else s.modHold c releasedHold := by
  unfold releaseClaim
  dsimp only
  split
  · rw [modHold_settle_of_frame (g := returnOrder c) fun f => returnOrder_modBay, modHold_eq_modBay,
      ← returnOrder_modBay]
    rfl
  · exact modHold_settle_of_frame (s := s) (c := c) (g := id) fun f => rfl

/-- Settles O50: the checks, then the order by whether it is still Claimed under the id. -/
theorem releaseReturnsTheOrder : Obligations.ReleaseReturnsTheOrder := by
  intro s vid c h found u replied
  obtain ⟨x, hx⟩ := restartDock_frame (s := s) (vid := vid)
  have hbay : (restartDock vid s).bay c = s.bay c := by rw [hx]; rfl
  have hu : (restartDock vid s).modHold c releasedHold = u := by
    rw [modHold_eq_modBay]
    refine modBay_congr ?_
    rw [hbay, releasedHold_eq]
  have horders : u.orders = s.orders := by
    change (restartDock vid s).orders = _
    rw [hx]
  have hfind : (restartDock vid s).orderOf c = found := by rw [hx]; rfl
  have hfindU : u.orderOf c = found := by
    change (restartDock vid s).orderOf c = _
    exact hfind
  refine ⟨fun fits byte hb => ?_, fun hvid hd => ?_, fun k hvid hk hkv he => ?_, fun k hvid hk hkv he => ?_⟩
  · refine congrArg Host.Outcome.next (answerMessage_turnedAway ?_)
    rw [handleRelease, messageBox_none hb]
  · refine congrArg Host.Outcome.next (answerMessage_turnedAway ?_)
    rw [handleRelease, messageBox_some hvid]
    dsimp only
    rw [dockedAs_restartDock_none hd]
  · refine congrArg Host.Outcome.next (answerMessage_turnedAway ?_)
    rw [handleRelease, messageBox_some hvid]
    dsimp only
    rw [dockedAs_restartDock_some hk hkv]
    exact if_neg (by rw [hbay]; change h.emptying ≠ some k.vehicle; rwa [hkv])
  · have hhandle : handleRelease true vid (byteOf c) (restartDock vid s) =
        ⟨releaseClaim vid.toNat c (restartDock vid s), .ok, .nothing⟩ := by
      rw [handleRelease, messageBox_some hvid]
      dsimp only
      rw [dockedAs_restartDock_some hk hkv, ← hkv]
      exact if_pos (by rw [hbay]; change h.emptying = some k.vehicle; rwa [hkv])
    have hexec : exec (.release true vid (byteOf c)) s =
        .next (replied (releaseClaim vid.toNat c (restartDock vid s))) :=
      congrArg Host.Outcome.next (answerMessage_eq hhandle)
    rw [hexec, releaseClaim_eq, hu]
    refine ⟨fun hno => ?_, fun o ho hs hv => ?_⟩
    · rw [if_neg fun hsome => ?_]
      obtain ⟨o, ho, hcl⟩ := isSome_claimedNumber.1 hsome
      exact hno o (hfind ▸ ho) hcl
    · obtain ⟨-, hc⟩ := mem_of_orderOf (hfindU.trans ho)
      rw [if_pos (isSome_claimedNumber.2 ⟨o, hfind.trans ho, hs, hv⟩), returnOrder_some (hfindU.trans ho)]
      refine congrArg (fun t => Host.Outcome.next (replied t)) ?_
      by_cases ha : o.abortRequested = true
      · rw [if_pos ha, if_pos ha, horders]
        have hclock : stamp u = stamp s := by
          change stamp (restartDock vid s) = _
          rw [hx]
          rfl
        rw [entryOf, ha, hv, hc, hclock]
      · rw [if_neg ha, if_neg ha, State.modOrder, horders]

/-! ## Lift Report -/

theorem claimedNumber_some {v : Nat} {o : Order} (h : s.orderOf c = some o) (hs : o.state = .claimed)
    (hv : o.vehicle = some v) : claimedNumber s c v = some o.number := by
  rw [claimedNumber, h]
  exact if_pos ⟨hs, hv⟩

theorem reportAccepted_iff {v : Nat} : reportAccepted v c s = true ↔
    (s.bay c).hold.emptying = some v ∧ (∃ o, s.orderOf c = some o ∧ o.state = .claimed ∧ o.vehicle = some v) ∧
      (s.bay c).hold.reported = false := by
  rw [reportAccepted, Bool.and_eq_true, Bool.and_eq_true, beq_iff_eq, isSome_claimedNumber, Bool.not_eq_true', and_assoc]

/-- The order an accepted report finishes, and the estimate it sets or halves (R154, R122, R123). -/
theorem reportEmptied_eq {mass : Half} {o : Order} (h : s.orderOf c = some o) : reportEmptied c mass s =
    evaluate c ((appendHistory (entryOf s o .emptied none (some mass.toNat))
        { s with orders := s.orders.filter fun x => decide (x.container ≠ c) }).modBay c fun b => { b with est :=
      { b.est with
        fill := b.record.config.residual, rem := 0, mPrev := none, mLast := none, volume := 0
        window := [], fails := 0, clean := 0, silent := 0, adjust := 0, mode := .tracking } }) := by
  rw [reportEmptied, finishOrder_some h, emptiedResult]
  exact congrArg (evaluate c) (modBay_congr rfl)

theorem halve_eq {e : Estimate} : halve e = { e with
    fill := e.fill / 2, mPrev := none, mLast := none, volume := 0, window := [], clean := 0
    mode := if e.mode = .blind then .blind else .doubtful } := by
  unfold halve restartMeasuring
  cases e.mode <;> rfl

theorem reportPartial_eq {mass : Half} {o : Order} (h : s.orderOf c = some o) : reportPartial c mass s =
    evaluate c ((appendHistory (entryOf s o .partLifted none (some mass.toNat))
        { s with orders := s.orders.filter fun x => decide (x.container ≠ c) }).modBay c fun b => { b with est :=
      { b.est with
        fill := b.est.fill / 2, mPrev := none, mLast := none, volume := 0, window := [], clean := 0
        mode := if b.est.mode = .blind then .blind else .doubtful } }) := by
  rw [reportPartial, finishOrder_some h, partialResult]
  refine congrArg (evaluate c) (modBay_congr ?_)
  rw [halve_eq]

theorem isExhausted_iff {o : Order} :
    isExhausted { o with attempts := o.attempts + 1 } = true ↔ o.oneShot = true ∨ 2 ≤ o.attempts := by
  rw [isExhausted, Bool.or_eq_true, decide_eq_true_iff]
  exact or_congr_right (by constructor <;> intro h <;> simpa using h)

/-- What the outcome of an accepted report gives (R154). -/
def lifted (c : Box) (mass : Half) (outcome : LiftCode) (s : State) : State :=
  match outcome with
  | .emptied => reportEmptied c mass s
  | .partLifted => reportPartial c mass s
  | .blocked => failAttempt c .blocked s
  | .other => s

/-- Settles O49: the checks, then the three outcomes. -/
theorem liftReportFinishesOrReturns : Obligations.LiftReportFinishesOrReturns := by
  intro s vid c mass b found bound accepted u rest replied entry
  obtain ⟨x, hx⟩ := restartDock_frame (s := s) (vid := vid)
  have hbay : (restartDock vid s).bay c = b := by rw [hx]; rfl
  have hfind : (restartDock vid s).orderOf c = found := by rw [hx]; rfl
  have haccepted : reportAccepted vid.toNat c (restartDock vid s) = true ↔ accepted := by
    rw [reportAccepted_iff, hbay, hfind]
    rfl
  refine ⟨fun fits byte outcome hb => ?_, fun outcome hvid hne hd => ?_, fun k outcome hvid hne hk hkv hno => ?_,
    fun k o hvid hk hkv hacc ho => ?_⟩
  · refine congrArg Host.Outcome.next (answerMessage_turnedAway ?_)
    by_cases hm : messageBox fits vid byte = none
    · rw [handleLift, hm]
    · have hother : outcome = .other := by
        by_contra ho
        exact hm (messageBox_none (by simpa [ho] using hb))
      rw [handleLift, hother]
      split
      · rfl
      · exact if_pos rfl
  · refine congrArg Host.Outcome.next (answerMessage_turnedAway ?_)
    rw [handleLift, messageBox_some hvid]
    dsimp only
    rw [if_neg hne, dockedAs_restartDock_none hd]
  · refine congrArg Host.Outcome.next (answerMessage_turnedAway ?_)
    rw [handleLift, messageBox_some hvid]
    dsimp only
    rw [if_neg hne, dockedAs_restartDock_some hk hkv]
    refine if_pos ?_
    rw [hkv]
    simpa using haccepted.not.2 hno
  · obtain ⟨hemp, ⟨o', ho', hs, hv⟩, hrep⟩ := id hacc
    obtain rfl := Option.some.inj (ho.symm.trans ho')
    have hnumber : claimedNumber (restartDock vid s) c vid.toNat = some o.number :=
      claimedNumber_some (hfind.trans ho) hs hv
    have hu : (restartDock vid s).modHold c (fun h => { h with reported := true }) = u := rfl
    have hfindU : u.orderOf c = some o := by
      change (restartDock vid s).orderOf c = _
      rw [hfind, ho]
    have horders : u.orders = s.orders := by
      change (restartDock vid s).orders = _
      rw [hx]
    have hclock : stamp u = stamp s := by
      change stamp (restartDock vid s) = _
      rw [hx]
      rfl
    obtain ⟨-, hc⟩ := mem_of_orderOf hfindU
    have hentry (outcome : OrderOutcome) (cause : Option FailCause) (m : Option Nat) (n : Nat) :
        entryOf u { o with attempts := n } outcome cause m = entry o outcome cause m n := by
      simp only [entryOf, hclock, hv, hc, entry]
    have hexec (outcome : LiftCode) (hne : outcome ≠ .other) (t : State)
        (ht : lifted c mass outcome u = t) :
        exec (.liftReport true vid (byteOf c) outcome mass) s = .next (replied t o outcome) := by
      refine congrArg Host.Outcome.next (answerMessage_eq (t := t) (body := .lifted (some o.number) outcome) ?_)
      rw [handleLift, messageBox_some hvid]
      dsimp only
      rw [if_neg hne, dockedAs_restartDock_some hk hkv]
      dsimp only
      rw [hkv, if_neg (by simpa using haccepted.2 hacc), hnumber, hu, ← ht] <;> rfl
    refine ⟨hexec _ (by simp) _ ?_, hexec _ (by simp) _ ?_, hexec _ (by simp) _ ?_⟩
    · refine (reportEmptied_eq hfindU).trans ?_
      rw [← hentry, horders]
    · refine (reportPartial_eq hfindU).trans ?_
      rw [← hentry, horders]
    · refine (failAttempt_some hfindU).trans ?_
      rw [← hentry, ← hentry, horders]
      refine if_congr isExhausted_iff rfl (if_congr Iff.rfl rfl ?_)
      rw [State.modOrder, horders]

end Sys2Proof.Machine
end

section
/-! Orders finished or returned one after another, with the entries they append (R152, R160 to R163). -/

namespace Sys2Proof.Machine

open Sys2Proof

variable {s t : State} {c d : Box} {es : List HistoryEntry} {e : HistoryEntry}

/-! ## Several entries appended -/

/-- The state after entries appended one after another. -/
def appended (es : List HistoryEntry) (s : State) : State :=
  es.foldl (fun t e => appendHistory e t) s

/-- Entries appended one by one keep the newest, as many as the history's capacity or its length before. -/
theorem drop_append {α : Type} (h es : List α) (e : α) :
    (((if 64 ≤ h.length then h.tail else h) ++ [e]) ++ es).drop
      (((if 64 ≤ h.length then h.tail else h) ++ [e]).length + es.length -
        max 64 ((if 64 ≤ h.length then h.tail else h) ++ [e]).length) =
      (h ++ e :: es).drop (h.length + (e :: es).length - max 64 h.length) := by
  by_cases hfull : 64 ≤ h.length
  · cases h with
    | nil => simp at hfull
    | cons a l =>
      rw [if_pos hfull, List.tail_cons]
      simp only [List.length_cons, List.length_append, List.length_nil] at hfull ⊢
      have h₁ : l.length + (0 + 1) + es.length - max 64 (l.length + (0 + 1)) = es.length := by omega
      have h₂ : l.length + 1 + (es.length + 1) - max 64 (l.length + 1) = es.length + 1 := by omega
      rw [h₁, h₂, List.append_assoc, List.singleton_append]
      rfl
  · rw [if_neg hfull, List.append_assoc, List.singleton_append]
    simp only [List.length_cons, List.length_append, List.length_nil]
    congr 1
    omega

/-- What entries appended one after another change (R163). -/
structure HistoryGrown (es : List HistoryEntry) (s t : State) : Prop where
  frame : t = { s with
    history := (s.history ++ es).drop (s.history.length + es.length - max 64 s.history.length)
    wrapped := s.wrapped || decide (es ≠ [] ∧ 64 < s.history.length + es.length)
    port := { s.port with items := t.port.items, line := t.port.line } }
  items : ∀ j < 10, t.port.items.getLsbD j = (s.port.items.getLsbD j || decide (j = 7 ∧ es ≠ [] ∧
    (s.history = [] ∨ s.wrapped = false ∧ es ≠ [] ∧ 64 < s.history.length + es.length)))
  line : s.port.lineAgrees → LineFollows s.port t.port

theorem historyGrown_appended : ∀ (es : List HistoryEntry) (s : State), HistoryGrown es s (appended es s)
  | [], s => by
    refine ⟨?_, fun j _ => ?_, LineFollows.refl⟩
    · have hdrop : (s.history ++ []).drop (s.history.length + ([] : List HistoryEntry).length - max 64 s.history.length) =
          s.history := by
        rw [List.append_nil, List.length_nil]
        have h0 : s.history.length + 0 - max 64 s.history.length = 0 := by omega
        rw [h0, List.drop_zero]
      rw [hdrop]
      simp [appended]
    · simp [appended]
  | e :: es, s => by
    obtain ⟨hframe, hitems, hline⟩ := historyGrown_appended es (appendHistory e s)
    have heq := appendHistory_eq (s := s) (e := e)
    obtain ⟨hline', hport, hitems'⟩ := portAfterRaise (s := s) (q := (appendHistory e s).port) (i := .historyNew)
      (a := NewsOfAppend s) (by rw [heq])
    have hstep : appended (e :: es) s = appended es (appendHistory e s) := rfl
    rw [hstep]
    generalize appended es (appendHistory e s) = t at hframe hitems hline ⊢
    have hhist : (appendHistory e s).history = (if 64 ≤ s.history.length then s.history.tail else s.history) ++ [e] := by
      rw [heq]
    have hwrap : (appendHistory e s).wrapped = (decide (64 ≤ s.history.length) || s.wrapped) := by rw [heq]
    have hlen : (appendHistory e s).history.length = min 64 (s.history.length + 1) ∨
        64 ≤ s.history.length ∧ (appendHistory e s).history.length = s.history.length := by
      rw [hhist]
      by_cases hfull : 64 ≤ s.history.length
      · right
        simp only [if_pos hfull, List.length_append, List.length_tail, List.length_cons, List.length_nil]
        omega
      · left
        simp only [if_neg hfull, List.length_append, List.length_cons, List.length_nil]
        omega
    refine ⟨?_, fun j hj => ?_, fun hs => (hline' hs).trans hs (hline ((hline' hs).follows ▸ lineAgrees_followLine))⟩
    · have hnewest : ((appendHistory e s).history ++ es).drop ((appendHistory e s).history.length + es.length -
          max 64 (appendHistory e s).history.length) =
          (s.history ++ e :: es).drop (s.history.length + (e :: es).length - max 64 s.history.length) := by
        rw [hhist, drop_append]
      have hwraps : ((appendHistory e s).wrapped || decide (es ≠ [] ∧ 64 < (appendHistory e s).history.length + es.length)) =
          (s.wrapped || decide (e :: es ≠ [] ∧ 64 < s.history.length + (e :: es).length)) := by
        rw [hwrap, Bool.or_comm (decide _) s.wrapped, Bool.or_assoc, ← Bool.decide_or]
        refine congrArg _ (decide_eq_decide.2 ?_)
        rw [← List.length_pos_iff, List.length_cons]
        simp only [ne_eq, reduceCtorEq, not_false_eq_true, true_and]
        omega
      rw [hnewest, hwraps, hport] at hframe
      refine hframe.trans ?_
      rw [heq]
    · rw [hitems j hj, hitems' j hj, hwrap, Bool.or_assoc, ← Bool.decide_or]
      refine congrArg _ (decide_eq_decide.2 ?_)
      have hne : (appendHistory e s).history ≠ [] := by rw [hhist]; simp
      have hbit : itemBit .historyNew = 7 := rfl
      rw [hbit, NewsOfAppend, ← and_or_left]
      refine and_congr_right fun _ => ?_
      simp only [hne, false_or, ← List.length_pos_iff, List.length_cons, ← List.length_eq_zero_iff, Bool.or_eq_false_iff,
        decide_eq_false_iff_not]
      cases s.wrapped with
      | false => simp only [and_true, true_and]; omega
      | true => simp

/-! ## Orders handled one after another -/

/-- What becomes of an order, and the entry it leaves. -/
abbrev OrderFate := Order → Option Order × Option HistoryEntry

/-- The list after the orders of some containers were handled. -/
def handledOrders (g : OrderFate) (cs : List Box) (l : List Order) : List Order :=
  l.filterMap fun x => if x.container ∈ cs then (g x).1 else some x

theorem appended_orders {l : List Order} : ∀ (es : List HistoryEntry) (s : State),
    appended es { s with orders := l } = { appended es s with orders := l }
  | [], _ => rfl
  | e :: es, s => by
    have h : appendHistory e { s with orders := l } = { appendHistory e s with orders := l } := by
      rw [appendHistory_eq, appendHistory_eq]
      rfl
    have hstep (t : State) : appended (e :: es) t = appended es (appendHistory e t) := rfl
    rw [hstep, hstep, h, appended_orders es (appendHistory e s)]

theorem appended_append {es' : List HistoryEntry} : appended (es ++ es') s = appended es' (appended es s) :=
  List.foldl_append

theorem orderOf_of_mem {o : Order} (hn : (s.orders.map Order.container).Nodup) (ho : o ∈ s.orders) :
    s.orderOf o.container = some o := by
  cases h : s.orderOf o.container with
  | none => exact absurd rfl (orderOf_eq_none.1 h o ho)
  | some o' =>
    obtain ⟨hmem, hc⟩ := mem_of_orderOf h
    rw [eq_of_mem_of_container hn hmem ho hc]

theorem handledOrders_sublist {g : OrderFate} (hg : ∀ x y, (g x).1 = some y → y.container = x.container) {cs : List Box} :
    ∀ l : List Order, ((handledOrders g cs l).map Order.container).Sublist (l.map Order.container)
  | [] => .slnil
  | x :: l => by
    have ih := handledOrders_sublist hg (cs := cs) l
    unfold handledOrders at ih ⊢
    rw [List.filterMap_cons]
    split
    next => exact ih.cons _
    next y hy =>
      have hc : y.container = x.container := by
        split at hy
        · exact hg x y hy
        · exact (congrArg Order.container (Option.some.inj hy)).symm
      rw [List.map_cons, List.map_cons, hc]
      exact ih.cons_cons _

theorem handledOrders_cons {g : OrderFate} (hg : ∀ x y, (g x).1 = some y → y.container = x.container) {cs : List Box}
    (hc : c ∉ cs) (l : List Order) : handledOrders g cs (handledOrders g [c] l) = handledOrders g (c :: cs) l := by
  unfold handledOrders
  rw [List.filterMap_filterMap]
  refine List.filterMap_congr fun x _ => ?_
  by_cases hx : x.container = c
  · rw [if_pos (List.mem_singleton.2 hx), if_pos (List.mem_cons.2 (.inl hx))]
    cases hy : (g x).1 with
    | none => rfl
    | some y =>
      rw [Option.bind_some, if_neg (by rw [hg x y hy, hx]; exact hc)]
  · rw [if_neg (by simpa using hx), Option.bind_some]
    exact if_congr (by simp [hx]) rfl rfl

theorem stamp_appended : stamp (appended es s) = stamp s := by
  rw [(historyGrown_appended es s).frame]
  rfl

/-- The orders of several containers handled one after another: their entries, and the list that is left. -/
theorem foldl_handledOrders {f : State → Box → State} {g : OrderFate} {stamped : Option Stamp}
    (hg : ∀ x y, (g x).1 = some y → y.container = x.container)
    (hf : ∀ t o, stamp t = stamped → (t.orders.map Order.container).Nodup → t.orderOf o.container = some o →
      f t o.container = appended (g o).2.toList { t with orders := handledOrders g [o.container] t.orders }) :
    ∀ (os : List Order) (s : State), stamp s = stamped → (s.orders.map Order.container).Nodup →
      (os.map Order.container).Nodup → (∀ o ∈ os, o ∈ s.orders) →
      (os.map Order.container).foldl f s =
        appended (os.filterMap fun o => (g o).2) { s with orders := handledOrders g (os.map Order.container) s.orders }
  | [], s, _, _, _, _ => by
    have h : handledOrders g [] s.orders = s.orders := List.filterMap_some
    rw [List.map_nil, List.filterMap_nil, h]
    rfl
  | o :: os, s, hs, hn, hos, hmem => by
    obtain ⟨hc, hos'⟩ := List.nodup_cons.1 hos
    have hfirst := hf s o hs hn (orderOf_of_mem hn (hmem o List.mem_cons_self))
    have horders : (f s o.container).orders = handledOrders g [o.container] s.orders := by
      rw [hfirst, appended_orders]
    have hstamp : stamp (f s o.container) = stamped := by
      rw [hfirst, stamp_appended]
      exact hs
    have hrest := foldl_handledOrders hg hf os (f s o.container) hstamp
      (by rw [horders]; exact (handledOrders_sublist hg _).nodup hn) hos' fun x hx => by
        rw [horders]
        refine List.mem_filterMap.2 ⟨x, hmem x (List.mem_cons_of_mem o hx), if_neg fun h => ?_⟩
        exact hc (List.mem_singleton.1 h ▸ List.mem_map_of_mem hx)
    have hentries : (o :: os).filterMap (fun o => (g o).2) = (g o).2.toList ++ os.filterMap fun o => (g o).2 := by
      rw [List.filterMap_cons]
      cases (g o).2 <;> rfl
    rw [List.map_cons, List.foldl_cons, hrest, horders, handledOrders_cons hg hc, hfirst, hentries, appended_append,
      ← appended_orders]

/-! ## Offers returned -/

/-- An order returned goes back to Pending, or is Aborted with its entry (R152, R157). -/
def returnFate (time : Option Stamp) : OrderFate := fun o =>
  if o.abortRequested = true then
    (none, some { number := o.number, label := o.label, container := o.container, origin := o.origin
                  outcome := .aborted, mark := o.abortRequested, cause := none, mass := none
                  vehicle := o.vehicle, time := time, attempts := o.attempts })
  else (some { o with state := .pending, vehicle := none }, none)

theorem container_returnFate {time : Option Stamp} (x y : Order) (h : (returnFate time x).1 = some y) :
    y.container = x.container := by
  unfold returnFate at h
  split at h
  · cases h
  · exact (congrArg Order.container (Option.some.inj h)).symm

/-- One order handled is one element of the list, its container having no other. -/
theorem handledOrders_single {g : OrderFate} {o : Order} (h : s.orderOf c = some o)
    (hn : (s.orders.map Order.container).Nodup) : handledOrders g [c] s.orders =
      s.orders.filterMap fun x => if x.container = c then (g o).1 else some x := by
  obtain ⟨hmem, hc⟩ := mem_of_orderOf h
  refine List.filterMap_congr fun x hx => ?_
  by_cases hxc : x.container = c
  · rw [if_pos (List.mem_singleton.2 hxc), if_pos hxc, eq_of_mem_of_container hn hx hmem (hxc.trans hc.symm)]
  · rw [if_neg (by simpa using hxc), if_neg hxc]

theorem filterMap_drop {l : List Order} :
    (l.filterMap fun x => if x.container = c then none else some x) = l.filter fun x => decide (x.container ≠ c) := by
  rw [← List.filterMap_eq_filter]
  refine List.filterMap_congr fun x _ => ?_
  by_cases hx : x.container = c <;> simp [hx, Option.guard]

theorem returnOrder_fate {o : Order} (h : s.orderOf o.container = some o) (hn : (s.orders.map Order.container).Nodup) :
    returnOrder o.container s = appended (returnFate (stamp s) o).2.toList
      { s with orders := handledOrders (returnFate (stamp s)) [o.container] s.orders } := by
  rw [handledOrders_single h hn, returnOrder_some h, returnFate]
  by_cases ha : o.abortRequested = true
  · rw [if_pos ha, if_pos ha]
    simp only [filterMap_drop]
    rfl
  · rw [if_neg ha, if_neg ha, State.modOrder]
    have hmap : (s.orders.filterMap fun x => if x.container = o.container
        then some { o with state := .pending, vehicle := none } else some x) =
        s.orders.map fun x => if x.container = o.container then { x with state := .pending, vehicle := none } else x := by
      rw [← List.filterMap_eq_map]
      refine List.filterMap_congr fun x hx => ?_
      by_cases hxc : x.container = o.container
      · rw [if_pos hxc, Function.comp_apply, if_pos hxc, eq_of_mem_of_container hn hx (mem_of_orderOf h).1 hxc]
      · rw [if_neg hxc, Function.comp_apply, if_neg hxc]
    rw [← hmap]
    rfl

/-- The orders that are Offered, in the order in which they are returned (R152; log entry 8). -/
theorem exists_offeredOrder (hn : (s.orders.map Order.container).Nodup) : ∃ os : List Order,
    os.map Order.container = freeOrder s.draws (offeredBoxes s) ∧
    os.Perm (s.orders.filter fun o => o.state == .offered) := by
  have hfound {o : Order} (ho : o ∈ s.orders.filter fun o => o.state == .offered) : s.orderOf o.container = some o :=
    orderOf_of_mem hn (List.mem_of_mem_filter ho)
  refine ⟨(freeOrder s.draws (offeredBoxes s)).filterMap s.orderOf, ?_, ?_⟩
  · rw [List.map_filterMap]
    refine (List.filterMap_congr fun c hc => ?_).trans List.filterMap_some
    obtain ⟨o, ho, rfl⟩ := List.mem_map.1 (mem_freeOrder.1 hc)
    rw [hfound ho, Option.map_some]
  · refine ((freeOrder_perm _).filterMap _).trans (List.Perm.of_eq ?_)
    rw [offeredBoxes, List.filterMap_map]
    exact (List.filterMap_congr fun o ho => hfound ho).trans List.filterMap_some

/-- The order list after every Offered order was returned. -/
def returnedOrders (l : List Order) : List Order :=
  l.filterMap fun o =>
    if o.state = .offered then
      (if o.abortRequested = true then none else some { o with state := .pending, vehicle := none })
    else some o

/-- The entries of the Offered orders whose abort is requested. -/
def abortedEntries (time : Option Stamp) (l : List Order) : List HistoryEntry :=
  (l.filter fun o => o.state == .offered && o.abortRequested).map fun o =>
    { number := o.number, label := o.label, container := o.container, origin := o.origin, outcome := .aborted
      mark := true, cause := none, mass := none, vehicle := o.vehicle, time := time, attempts := o.attempts }

/-- The return of every Offered order: the list, and the entries in an order that is free (R152). -/
theorem returnOffered_eq (hn : (s.orders.map Order.container).Nodup) : ∃ ended : List HistoryEntry,
    ended.Perm (abortedEntries (stamp s) s.orders) ∧
    returnOffered s = appended ended { s with orders := returnedOrders s.orders, draws := s.draws + 1 } := by
  obtain ⟨os, hos, hperm⟩ := exists_offeredOrder hn
  refine ⟨os.filterMap fun o => (returnFate (stamp s) o).2, ?_, ?_⟩
  · refine (hperm.filterMap _).trans (List.Perm.of_eq ?_)
    rw [abortedEntries, ← List.filterMap_eq_map, List.filterMap_filter, List.filterMap_filter]
    refine List.filterMap_congr fun o _ => ?_
    cases ho : o.state == .offered with
    | false => rfl
    | true =>
      cases ha : o.abortRequested with
      | false => simp [returnFate, ha]
      | true => simp [returnFate, ha]
  · have hnos : (os.map Order.container).Nodup :=
      (hperm.map _).nodup_iff.2 ((List.filter_sublist.map _).nodup hn)
    have hfold := foldl_handledOrders (f := fun t c => returnOrder c t) (g := returnFate (stamp s)) (stamped := stamp s)
      container_returnFate (fun t o ht hnt ho => by rw [← ht]; exact returnOrder_fate ho hnt) os
      { s with draws := s.draws + 1 } rfl hn hnos fun o ho => List.mem_of_mem_filter (hperm.mem_iff.1 ho)
    rw [returnOffered, ← hos]
    refine hfold.trans ?_
    have hlist : handledOrders (returnFate (stamp s)) (os.map Order.container) s.orders = returnedOrders s.orders := by
      refine List.filterMap_congr fun x hx => ?_
      have hmem : x.container ∈ os.map Order.container ↔ x.state = .offered := by
        refine ⟨fun h => ?_, fun h => ?_⟩
        · obtain ⟨o, ho, hc⟩ := List.mem_map.1 h
          obtain ⟨ho', hstate⟩ := List.mem_filter.1 (hperm.mem_iff.1 ho)
          rw [eq_of_mem_of_container hn hx ho' hc.symm]
          exact beq_iff_eq.1 hstate
        · exact List.mem_map_of_mem (hperm.mem_iff.2 (List.mem_filter.2 ⟨hx, beq_iff_eq.2 h⟩))
      by_cases hs : x.state = .offered
      · rw [if_pos (hmem.2 hs), if_pos hs, returnFate]
        split <;> rfl
      · rw [if_neg fun h => hs (hmem.1 h), if_neg hs]
    rw [hlist]

end Sys2Proof.Machine
end

section
/-! Dock, Refresh, Undock and the expiry of T_dock (R151, R152, R171 to R174). -/

namespace Sys2Proof.Machine

open Sys2Proof

variable {s t : State} {c d : Box} {vid : Half} {es : List HistoryEntry} {x : Option DockRecord}

/-! ## The return of the offers -/

theorem appendHistory_dock {e : HistoryEntry} :
    appendHistory e { s with dock := x } = { appendHistory e s with dock := x } := by
  rw [appendHistory_eq, appendHistory_eq]
  rfl

theorem returnOrder_dock : returnOrder c { s with dock := x } = { returnOrder c s with dock := x } := by
  cases h : s.orderOf c with
  | none =>
    have hnone (t : State) (ht : t.orderOf c = none) : returnOrder c t = t := by rw [returnOrder, ht]
    rw [hnone _ h, hnone { s with dock := x } h]
  | some o =>
    have h' : State.orderOf { s with dock := x } c = some o := h
    rw [returnOrder_some h, returnOrder_some h']
    split
    · exact appendHistory_dock (s := { s with orders := s.orders.filter fun x => decide (x.container ≠ c) })
    · rfl

theorem foldl_returnOrder_dock : ∀ (l : List Box) (s : State),
    l.foldl (fun t c => returnOrder c t) { s with dock := x } =
      { l.foldl (fun t c => returnOrder c t) s with dock := x }
  | [], _ => rfl
  | c :: l, s => by rw [List.foldl_cons, returnOrder_dock, foldl_returnOrder_dock l (returnOrder c s), List.foldl_cons]

theorem returnOffered_dock : returnOffered { s with dock := x } = { returnOffered s with dock := x } :=
  foldl_returnOrder_dock _ { s with draws := s.draws + 1 }

/-- The Offered orders whose abort is requested were offered to the vehicle that is docked. -/
theorem vehicle_of_abortedEntries {time : Option Stamp} {v : Option Nat}
    (h : ∀ o ∈ s.orders, o.state = .offered → o.vehicle = v) : ∀ e ∈ abortedEntries time s.orders, e.vehicle = v := by
  intro e he
  obtain ⟨o, ho, rfl⟩ := List.mem_map.1 he
  obtain ⟨hmem, hc⟩ := List.mem_filter.1 ho
  exact h o hmem (beq_iff_eq.1 (Bool.and_eq_true_iff.1 hc).1)

theorem abortedEntries_eq_nil {time : Option Stamp} (h : ∀ o ∈ s.orders, o.state = .offered → o.abortRequested = false) :
    abortedEntries time s.orders = [] := by
  rw [abortedEntries, List.map_eq_nil_iff, List.filter_eq_nil_iff]
  intro o ho hc
  obtain ⟨hstate, habort⟩ := Bool.and_eq_true_iff.1 hc
  rw [h o ho (beq_iff_eq.1 hstate)] at habort
  cases habort

/-- The Offered orders returned, with what the entries of those aborted change. -/
theorem returnOffered_spec (hn : (s.orders.map Order.container).Nodup) :
    let aborted := abortedEntries (stamp s) s.orders
    let wraps := aborted ≠ [] ∧ 64 < s.history.length + aborted.length
    let r := returnOffered s
    r = { s with
      orders := returnedOrders s.orders, draws := s.draws + 1, history := r.history
      wrapped := s.wrapped || decide wraps
      port := { s.port with items := r.port.items, line := r.port.line } } ∧
    (∃ ended : List HistoryEntry, ended.Perm aborted ∧
      r.history = (s.history ++ ended).drop (s.history.length + ended.length - max 64 s.history.length)) ∧
    (∀ j < 10, r.port.items.getLsbD j = (s.port.items.getLsbD j ||
      decide (j = 7 ∧ aborted ≠ [] ∧ (s.history = [] ∨ s.wrapped = false ∧ wraps)))) ∧
    (s.port.lineAgrees → LineFollows s.port r.port) ∧
    (aborted = [] → r.history = s.history ∧ r.wrapped = s.wrapped ∧ r.port = s.port) := by
  obtain ⟨ended, hperm, hr⟩ := returnOffered_eq hn
  have hgrown := historyGrown_appended ended { s with orders := returnedOrders s.orders, draws := s.draws + 1 }
  rw [← hr] at hgrown
  have hnil : ended = [] ↔ abortedEntries (stamp s) s.orders = [] :=
    ⟨fun h => List.perm_nil.1 (h ▸ hperm).symm, fun h => List.perm_nil.1 (h ▸ hperm)⟩
  have hwraps : (ended ≠ [] ∧ 64 < s.history.length + ended.length) ↔
      (abortedEntries (stamp s) s.orders ≠ [] ∧ 64 < s.history.length + (abortedEntries (stamp s) s.orders).length) := by
    rw [ne_eq, ne_eq, hnil, hperm.length_eq]
  have hhistory : (returnOffered s).history =
      (s.history ++ ended).drop (s.history.length + ended.length - max 64 s.history.length) := by
    rw [hgrown.frame]
  refine ⟨?_, ⟨ended, hperm, hhistory⟩, fun j hj => ?_, hgrown.line, fun h => ?_⟩
  · refine hgrown.frame.trans ?_
    rw [hhistory, decide_eq_decide.2 hwraps]
  · rw [hgrown.items j hj]
    refine congrArg _ (decide_eq_decide.2 ?_)
    rw [hwraps, ne_eq, hnil]
  · rw [hr, hnil.2 h]
    exact ⟨rfl, rfl, rfl⟩

/-! ## The end of a dock -/

theorem endDock_eq {v : Nat} : endDock v s = { returnOffered s with
    bays := (endDock v s).bays, dock := none, port := (raise .undock (returnOffered s)).port } := by
  simp only [endDock, markOrphans, State.mapBays, raise]

theorem port_endDock {v : Nat} : (endDock v s).port = (raise .undock (returnOffered s)).port := by
  rw [endDock_eq]

theorem endDock_dock {v : Nat} : endDock v { s with dock := x } = endDock v s := by
  have h : markOrphans v true { returnOffered s with dock := x } =
      { returnOffered s with bays := (markOrphans v true (returnOffered s)).bays, dock := x } := markOrphans_dock
  have h' : markOrphans v true (returnOffered s) =
      { returnOffered s with bays := (markOrphans v true (returnOffered s)).bays } := by
    simp only [markOrphans, State.mapBays]
  unfold endDock
  rw [returnOffered_dock, h, h']

theorem bay_returnOffered (hn : (s.orders.map Order.container).Nodup) : (returnOffered s).bay c = s.bay c :=
  bay_of_bays_eq (by rw [(returnOffered_spec hn).1])

/-- The holds of a vehicle marked, the rest of each container as it was (R171, R174). -/
theorem bay_markOrphans_eq {v : Nat} {mark : Bool} : (markOrphans v mark s).bay c =
    if (s.bay c).hold.emptying = some v then { s.bay c with hold := { (s.bay c).hold with orphan := mark } }
    else s.bay c := by
  rw [bay_markOrphans, markedHold]
  split <;> rfl

theorem bay_endDock {v : Nat} (hn : (s.orders.map Order.container).Nodup) : (endDock v s).bay c =
    if (s.bay c).hold.emptying = some v then { s.bay c with hold := { (s.bay c).hold with orphan := true } }
    else s.bay c := by
  have h : (endDock v s).bay c = (markOrphans v true (returnOffered s)).bay c := bay_of_bays_eq rfl
  rw [h, bay_markOrphans_eq, bay_returnOffered hn]

theorem exec_undock_bad {fits : Bool} (h : fits = false ∨ vid = 0#16) :
    exec (.undock fits vid) s = .next (turnedAway vid .badMessage s) :=
  congrArg Host.Outcome.next (answerMessage_turnedAway (if_pos (badFrame h)))

/-- Settles O47: the refusals, then the end of the dock by the return of its offers. -/
theorem dockEndsOrphanHolds : Obligations.DockEndsOrphanHolds := by
  refine fun s vid => ⟨fun fits h => exec_undock_bad h, fun hvid hd => ?_, fun h => ?_, fun k hk hfit => ?_⟩
  · refine congrArg Host.Outcome.next (answerMessage_turnedAway ?_)
    rw [handleUndock, if_neg (goodFrame hvid), dockedAs_restartDock_none hd]
  · exact congrArg Host.Outcome.next (by rw [h])
  · intro aborted wraps
    obtain ⟨hframe, hhistory, hitems, hline, hnone⟩ := returnOffered_spec hfit.1
    have hport := port_endDock (s := s) (v := k.vehicle)
    refine ⟨endDock k.vehicle s, congrArg Host.Outcome.next (by rw [hk]), ?_, ?_, fun hoff => ?_, fun i => ?_, fun hl => ?_,
      fun c => bay_endDock hfit.1, fun hno => ?_, fun hvid hv => ?_⟩
    · obtain ⟨i, l, hraise⟩ := raise_frame (i := .undock) (s := returnOffered s)
      rw [endDock_eq, hraise, hframe]
      rfl
    · rw [endDock_eq]
      exact hhistory
    · exact vehicle_of_abortedEntries fun o ho hs => (hoff o ho hs).trans (by rw [hk]; rfl)
    · rw [hport, getLsbD_raise i.isLt, hitems i i.isLt, Bool.or_assoc, ← Bool.decide_or]
      refine congrArg _ (decide_eq_decide.2 ?_)
      rw [or_comm]
      have hval (n : Fin 10) : i.val = n.val ↔ i = n := Fin.ext_iff.symm
      exact or_congr (hval 6) (and_congr_left fun _ => hval 7)
    · have hfollows := (hline hl).trans hl (lineFollows_raise (i := .undock))
      rw [hport]
      exact congrArg Port.line hfollows.follows
    · obtain ⟨h₁, h₂, h₃⟩ := hnone (abortedEntries_eq_nil hno)
      refine ⟨?_, ?_, ?_⟩
      · rw [endDock_eq]
        exact h₁
      · rw [endDock_eq]
        exact h₂
      · rw [hport, raise, raise, h₃]
    · refine congrArg Host.Outcome.next ((answerMessage_eq (t := endDock k.vehicle s) (status := .ok)
        (body := .nothing) ?_))
      rw [handleUndock, if_neg (goodFrame hvid), dockedAs_restartDock_some hk hv]
      dsimp only
      rw [restartDock_eq, endDock_dock]

/-! ## Offers built -/

/-- Whether an order may join the offer, by the rule's own words (R151). -/
def eligible (s : State) (f : BitVec 8) (o : Order) : Bool :=
  o.state == .pending && f.getLsbD (fractionCode (s.bay o.container).record.config.fraction) &&
    (s.bay o.container).hold.emptying.isNone

/-- The list with the first eight ranked eligible orders offered (R151). -/
def chosenOrders (s : State) (v : Nat) (f : BitVec 8) (l : List Order) : List Order :=
  l.map fun o => if o.container ∈ (((ranked l).filter (eligible s f)).take 8).map Order.container
    then { o with state := .offered, vehicle := some v } else o

theorem buildOffer_eq {v : Nat} {f : BitVec 8} (h : ∀ c, (t.bay c).record = (s.bay c).record ∧
    (t.bay c).hold.emptying = (s.bay c).hold.emptying) :
    buildOffer v f t = { t with orders := chosenOrders s v f t.orders } := by
  have hmay : mayOffer t f = eligible s f := by
    funext o
    rw [mayOffer, eligible, (h o.container).1, (h o.container).2]
    rfl
  unfold buildOffer offerChoice chosenOrders
  rw [hmay]
  dsimp only
  simp only [List.contains_iff_mem]

theorem offerList_eq (h : ∀ c, (t.bay c).record = (s.bay c).record ∧ (t.bay c).est = (s.bay c).est) : offerList t =
    ((ranked t.orders).filter fun o => o.state == .offered).map fun o =>
      { order := o.number, container := o.container
        cluster := (s.bay o.container).record.config.cluster
        fraction := (s.bay o.container).record.config.fraction, priority := o.priority
        unverified := o.unverified
        percent :=
          (if (s.bay o.container).est.mode = .doubtful
            then max (s.bay o.container).est.fill ((s.bay o.container).est.mLast.getD 0)
            else (s.bay o.container).est.fill) * 100 / (s.bay o.container).record.config.capacity } := by
  refine List.map_congr_left fun o _ => ?_
  rw [offerEntry, effPercent, (h o.container).1, (h o.container).2, effFill_eq]

/-! ## Dock -/

theorem restartDock_of_none (h : s.dock = none) : restartDock vid s = s := by
  rw [restartDock, h]

theorem dockVehicle_eq {f : Byte} : dockVehicle vid f s = { s with
    bays := (markOrphans vid.toNat false s).bays, orders := chosenOrders s vid.toNat f s.orders
    dock := some ⟨vid.toNat, f, s.settings.tDock⟩, port := (raise .dock s).port } := by
  have hmark : markOrphans vid.toNat false (raise .dock { s with dock := some ⟨vid.toNat, f, s.settings.tDock⟩ }) =
      { s with
        bays := (markOrphans vid.toNat false s).bays, dock := some ⟨vid.toNat, f, s.settings.tDock⟩
        port := (raise .dock s).port } := by
    simp only [raise, markOrphans, State.mapBays]
    rfl
  unfold dockVehicle
  dsimp only
  rw [hmark]
  refine buildOffer_eq (s := s) fun c => ?_
  have hbay : State.bay { s with
      bays := (markOrphans vid.toNat false s).bays, dock := some ⟨vid.toNat, f, s.settings.tDock⟩
      port := (raise .dock s).port } c = (markOrphans vid.toNat false s).bay c := bay_of_bays_eq rfl
  rw [hbay, bay_markOrphans_eq]
  split <;> exact ⟨rfl, rfl⟩

theorem handleDock_bad {fits : Bool} {f : Byte}
    (h : fits = false ∨ vid = 0#16 ∨ f = 0#8 ∨ 32 ≤ f.toNat) : handleDock fits vid f s = turnAway .badMessage s := by
  refine if_pos ?_
  rcases h with rfl | rfl | rfl | h
  · simp
  · simp
  · simp
  · have hset : isFractionSet f = false := by
      rw [← Bool.not_eq_true, isFractionSet_iff]
      omega
    simp [hset]

theorem handleDock_good {f : Byte} (hv : vid ≠ 0#16) (hf : f ≠ 0#8) (h32 : f.toNat < 32) : handleDock true vid f s =
    if s.dock.isSome then turnAway .dockBusy s
    else ⟨dockVehicle vid f s, .ok, .offer (offerList (dockVehicle vid f s))⟩ := by
  refine if_neg ?_
  simp [hv, hf, isFractionSet_iff.2 h32]

/-- A reply beside the fields a Dock or a Refresh writes: the reply put where the frame says it. -/
theorem dockFrame_reply {bv : Vector Bay 32} {os : List Order} {p : Port} {r r' : Option Reply}
    (ht : t = { s with bays := bv, orders := os, dock := x, port := p }) (hr : r = r') :
    { t with reply := r } = { s with bays := bv, orders := os, dock := x, port := p, reply := r' } := by
  rw [ht, hr]

theorem refreshFrame_reply {hist : List HistoryEntry} {w : Bool} {n : Nat} {os : List Order} {p : Port}
    {r r' : Option Reply} (ht : t = { s with
      orders := os, history := hist, wrapped := w, dock := x, draws := n, port := p }) (hr : r = r') :
    { t with reply := r } = { s with
      orders := os, history := hist, wrapped := w, dock := x, draws := n, port := p, reply := r' } := by
  rw [ht, hr]

/-- Settles O46: the refusals, the Dock, and the Refresh by the return of the offers before. -/
theorem dockAndRefreshOffer : Obligations.DockAndRefreshOffer := by
  intro s vid fractions elig choose offer returned
  have hchoose (v : Nat) (hv : v = vid.toNat) (f : BitVec 8) (l : List Order) : chosenOrders s v f l = choose f l := by
    subst hv
    rfl
  have hoffer (t : State) (h : ∀ c, (t.bay c).record = (s.bay c).record ∧ (t.bay c).est = (s.bay c).est) :
      ReplyBody.offer (offerList t) = offer t := congrArg _ (offerList_eq h)
  refine ⟨fun fits h => ?_, fun hv hf h32 hd => ?_, fun hv hf h32 hd => ?_, fun fits h => ?_, fun hv hd => ?_,
    fun k hv hk hkv hfit => ?_⟩
  · exact congrArg Host.Outcome.next (answerMessage_turnedAway (handleDock_bad h))
  · refine congrArg Host.Outcome.next (answerMessage_turnedAway ?_)
    rw [handleDock_good hv hf h32]
    refine if_pos ?_
    rw [restartDock_eq, Option.isSome_map]
    exact Option.isSome_iff_ne_none.2 hd
  · have hhandle : handleDock true vid fractions (restartDock vid s) =
        ⟨dockVehicle vid fractions s, .ok, .offer (offerList (dockVehicle vid fractions s))⟩ := by
      rw [handleDock_good hv hf h32, restartDock_of_none hd, hd]
      rfl
    have hbay (c : Box) : (dockVehicle vid fractions s).bay c = _ :=
      (bay_of_bays_eq (by rw [dockVehicle_eq])).trans (bay_markOrphans_eq (s := s) (v := vid.toNat) (mark := false))
    have hkept (c : Box) : ((dockVehicle vid fractions s).bay c).record = (s.bay c).record ∧
        ((dockVehicle vid fractions s).bay c).est = (s.bay c).est := by
      rw [hbay c]
      split <;> exact ⟨rfl, rfl⟩
    have hframe : dockVehicle vid fractions s = { s with
        bays := (dockVehicle vid fractions s).bays, orders := choose fractions s.orders
        dock := some ⟨vid.toNat, fractions, s.settings.tDock⟩, port := (raise .dock s).port } := by
      rw [← hchoose _ rfl]
      exact dockVehicle_eq.trans (by rw [dockVehicle_eq])
    have hbody := hoffer _ hkept
    generalize dockVehicle vid fractions s = u at hhandle hbay hframe hbody
    refine ⟨_, congrArg Host.Outcome.next (answerMessage_eq hhandle), dockFrame_reply hframe ?_, hbay⟩
    exact congrArg (fun b => some (Reply.mk .ok (holdList u vid.toNat) b)) hbody
  · exact congrArg Host.Outcome.next (answerMessage_turnedAway (if_pos (badFrame h)))
  · refine congrArg Host.Outcome.next (answerMessage_turnedAway ?_)
    rw [handleRefresh, if_neg (goodFrame hv), dockedAs_restartDock_none hd]
  · intro aborted wraps
    obtain ⟨hframe, hhistory, hitems, hline, hnone⟩ := returnOffered_spec hfit.1
    have hrestart : restartDock vid s = { s with dock := some { k with tDock := s.settings.tDock } } := by
      rw [restartDock_eq, hk, Option.map_some, if_pos hkv]
    have hbay (c : Box) : State.bay { returnOffered s with dock := some { k with tDock := s.settings.tDock } } c = s.bay c :=
      (bay_of_bays_eq rfl).trans (bay_returnOffered hfit.1)
    have hbuild : buildOffer k.vehicle k.fractions (returnOffered (restartDock vid s)) = { returnOffered s with
        dock := some { k with tDock := s.settings.tDock }
        orders := choose k.fractions returned } := by
      rw [hrestart, returnOffered_dock, buildOffer_eq (s := s) fun c => by rw [hbay c]; exact ⟨rfl, rfl⟩, ← hchoose _ hkv,
        hframe]
      rfl
    have hhandle : handleRefresh true vid (restartDock vid s) =
        ⟨buildOffer k.vehicle k.fractions (returnOffered (restartDock vid s)), .ok,
          .offer (offerList (buildOffer k.vehicle k.fractions (returnOffered (restartDock vid s))))⟩ := by
      rw [handleRefresh, if_neg (goodFrame hv), dockedAs_restartDock_some hk hkv]
    rw [hbuild] at hhandle
    have hbody := hoffer { returnOffered s with
        dock := some { k with tDock := s.settings.tDock }, orders := choose k.fractions returned } fun c => by
      rw [show State.bay { returnOffered s with
        dock := some { k with tDock := s.settings.tDock }, orders := choose k.fractions returned } c = s.bay c from hbay c]
      exact ⟨rfl, rfl⟩
    generalize returnOffered s = r at hhandle hframe hhistory hitems hline hnone hbody
    refine ⟨_, congrArg Host.Outcome.next (answerMessage_eq hhandle), ?_, hhistory, fun hoff => ?_, fun i => ?_, fun hl => ?_,
      fun hno => hnone (abortedEntries_eq_nil hno)⟩
    · refine refreshFrame_reply ?_ ?_
      · conv_lhs => rw [hframe]
        have hdraws : r.draws = s.draws + 1 := by rw [hframe]
        dsimp only
        rw [hdraws]
        rfl
      · exact congrArg (fun b => some (Reply.mk .ok (holdList _ vid.toNat) b)) hbody
    · exact vehicle_of_abortedEntries fun o ho hs => (hoff o ho hs).trans (by rw [hk]; rfl)
    · refine (hitems i i.isLt).trans (congrArg _ (decide_eq_decide.2 ?_))
      have hval (n : Fin 10) : i.val = n.val ↔ i = n := Fin.ext_iff.symm
      exact and_congr_left fun _ => hval 7
    · exact congrArg Port.line (hline hl).follows

end Sys2Proof.Machine
end

section
/-! The bus: the entry to Quiet, slots and cycles, the moves between the states, the attention line (R23 to R25, R35 to
R44, R195 to R198). -/

namespace Sys2Proof.Machine

open Sys2Proof

variable {s t : State} {c d : Box} {b : Bay} {len : Nat}

/-! ## The start of a slot -/

/-- A container at the start of its slot: a held T_cl restarted, the downlink sent (R24, R25, R44). -/
def slotBay (len : Nat) (b : Bay) : Bay :=
  let hatch := if b.column.lost then b.hatch else resumeDemand len b.hatch
  { b with hatch := hatch, column := { b.column with downlink := some (downlinkOf { b with hatch := hatch }) } }

theorem startSlot_some {rest : List (Option Box)} (h : s.bus.slots = some c :: rest) :
    startSlot s = s.modBay c (slotBay s.settings.tCl) := by
  unfold startSlot
  rw [h]
  dsimp only
  cases hl : (s.bay c).column.lost with
  | true =>
    rw [if_pos rfl, modColumn_eq_modBay]
    exact modBay_congr (by simp only [slotBay, hl, if_true])
  | false =>
    rw [if_neg Bool.false_ne_true, modColumn_eq_modBay, modHatch_eq_modBay, modBay_modBay, bay_modBay_self]
    exact modBay_congr (by simp only [slotBay, hl]; rfl)

theorem bay_startSlot : (startSlot s).bay d =
    if s.bus.slots.head? = some (some d) then slotBay s.settings.tCl (s.bay d) else s.bay d := by
  split
  next h =>
    obtain ⟨rest, hrest⟩ := List.head?_eq_some_iff.1 h
    rw [startSlot_some hrest, bay_modBay_self]
  next h => exact bay_startSlot_ne h

theorem hatchCommand_eq {h : Hatch} : hatchCommand h =
    if h.demand ≠ none then .closeHatch
    else if ∃ k ∈ h.cycle, k.phase ≠ .deposited then .openHatch else .keepClosed := by
  unfold hatchCommand
  cases h.demand with
  | some _ => rfl
  | none =>
    cases h.cycle with
    | none => simp
    | some k => by_cases hk : k.phase = .deposited <;> simp [hk]

theorem standingCode_eq : standingCode b =
    if opState b = .dormant ∨ opState b = .held ∨ opState b = .inFault then .outOfService else .idle := by
  unfold standingCode
  cases opState b <;> rfl

theorem displayCode_eq : displayCode b =
    if b.hatch.cycle ≠ none then .granted
    else match b.display with
      | some r => .denied r
      | none => standingCode b := by
  unfold displayCode
  exact if_congr cycleActive_iff rfl rfl

theorem downlinkOf_eq : downlinkOf b =
    { command := hatchCommand b.hatch
      display := match b.column.answer with
        | some a => a.code
        | none => displayCode b
      tag := b.column.answer.map Answer.card } := by
  unfold downlinkOf
  cases b.column.answer <;> rfl

/-- Whether a T_cl restarts changes neither the operating state nor the display. -/
theorem opState_of_cycle {h : Hatch} (hc : h.cycle = b.hatch.cycle) : opState { b with hatch := h } = opState b := by
  unfold opState Bay.cycleActive
  dsimp only
  rw [hc]

/-! ## The start of a cycle -/

theorem head?_slotList : (slotList s).head? = some (some c) ↔
    (allBoxes.filter fun c => (s.bay c).record.config.present).head? = some c := by
  unfold slotList
  generalize (allBoxes.filter fun c => (s.bay c).record.config.present) = l
  cases l with
  | nil => simp
  | cons d l => simp

theorem startCycle_eq : startCycle s = { s with
    bays := (startCycle s).bays
    bus := { s.bus with counter := (s.bus.counter + 1) % 64, slots := slotList s } } := by
  obtain ⟨b, h⟩ := startCycle_frame (s := s)
  rw [h]

theorem bay_startCycle : (startCycle s).bay d =
    if (allBoxes.filter fun c => (s.bay c).record.config.present).head? = some d
    then slotBay s.settings.tCl (s.bay d) else s.bay d := by
  unfold startCycle
  exact bay_startSlot.trans (if_congr head?_slotList rfl rfl)

/-! ## The next slot -/

theorem isPolling_iff {b : Bus} : isPolling b = true ↔ b.state = .active ∨ b.state = .woken ∨ b.state = .draining := by
  unfold isPolling
  cases b.state <;> simp

theorem nextSlot_of_stopped (h : isPolling s.bus = false) : nextSlot s = { s with bus := { s.bus with slots := [] } } :=
  if_neg (by rw [h]; exact Bool.false_ne_true)

theorem nextSlot_of_last (h : isPolling s.bus = true) (hlen : s.bus.slots.length ≤ 1) : nextSlot s = startCycle s := by
  have htail : s.bus.slots.tail = [] := by
    rw [← List.length_eq_zero_iff, List.length_tail]
    omega
  unfold nextSlot
  rw [if_pos h, htail]

theorem nextSlot_of_cons {ended next : Option Box} {rest : List (Option Box)} (h : isPolling s.bus = true)
    (hslots : s.bus.slots = ended :: next :: rest) :
    nextSlot s = startSlot { s with bus := { s.bus with slots := next :: rest } } := by
  unfold nextSlot
  rw [if_pos h, hslots, List.tail_cons]

theorem startSlot_eq : startSlot s = { s with bays := (startSlot s).bays } := by
  obtain ⟨b, h⟩ := startSlot_frame (s := s)
  rw [h]

/-- Settles O31: the entry to Quiet, the start of a cycle, and what follows the end of a slot. -/
theorem quietEntryAndCycleStart : Obligations.QuietEntryAndCycleStart := by
  unfold Obligations.QuietEntryAndCycleStart
  intro opening
  have hopening (len : Nat) (b : Bay) : slotBay len b = opening len b := by
    rw [slotBay]
    dsimp only [opening]
    have hhatch : (if b.column.lost = true then b.hatch else resumeDemand len b.hatch) =
        if b.column.lost = false ∧ b.hatch.demand = some .held
        then { b.hatch with demand := some (.running len) } else b.hatch := by
      unfold resumeDemand
      by_cases hd : b.hatch.demand = some .held
      · cases b.column.lost <;> simp [hd]
      · cases b.column.lost <;> simp [hd]
    rw [hhatch, downlinkOf_eq, hatchCommand_eq, displayCode_eq, standingCode_eq]
    have hcycle : (if b.column.lost = false ∧ b.hatch.demand = some .held
        then { b.hatch with demand := some (.running len) } else b.hatch).cycle = b.hatch.cycle := by
      split <;> rfl
    rw [opState_of_cycle hcycle] <;> rfl
  refine ⟨fun s => ?_, fun s => ?_, fun s => ⟨fun h => ?_, fun h hlen => ?_, fun ended next rest h hslots => ?_⟩⟩
  · refine ⟨?_, fun c => bay_enterQuiet⟩
    dsimp only
    rw [enterQuiet_eq]
    rfl
  · exact ⟨startCycle_eq, fun c => by rw [← hopening]; exact bay_startCycle⟩
  · exact nextSlot_of_stopped (by rw [← Bool.not_eq_true, isPolling_iff]; exact h)
  · exact nextSlot_of_last (isPolling_iff.2 h) hlen
  · dsimp only
    rw [nextSlot_of_cons (isPolling_iff.2 h) hslots]
    refine ⟨startSlot_eq, fun c => ?_⟩
    rw [← hopening, bay_startSlot, List.head?_cons]
    exact if_congr ⟨Option.some.inj, congrArg some⟩ rfl rfl

/-! ## The moves between the states -/

theorem leaveForQuiet_eq : leaveForQuiet s = if ∃ c : Box, (s.bay c).hatch.cycle ≠ none
    then { s with bus := { s.bus with state := .draining, tInact := none } } else enterQuiet s := by
  unfold leaveForQuiet
  by_cases h : ∃ c : Box, (s.bay c).hatch.cycle ≠ none
  · rw [if_pos h, if_neg]
    rw [activeBoxes_isEmpty]
    obtain ⟨c, hc⟩ := h
    exact fun hall => hc (hall c)
  · rw [if_neg h, if_pos]
    rw [activeBoxes_isEmpty]
    exact fun c => by_contra fun hc => h ⟨c, hc⟩

theorem enterQuiet_noteTaken : enterQuiet (noteTaken s) = noteTaken (enterQuiet s) := by
  rw [enterQuiet_eq, enterQuiet_eq]
  rfl

theorem startSlot_noteTaken : startSlot (noteTaken s) = noteTaken (startSlot s) := by
  match h : s.bus.slots with
  | some c :: rest =>
    rw [startSlot_some h, startSlot_some (s := noteTaken s) h]
    rfl
  | none :: rest =>
    have hnone (t : State) (ht : t.bus.slots = none :: rest) : startSlot t = t := by rw [startSlot, ht]
    rw [hnone s h, hnone (noteTaken s) h]
  | [] =>
    have hnil (t : State) (ht : t.bus.slots = []) : startSlot t = t := by rw [startSlot, ht]
    rw [hnil s h, hnil (noteTaken s) h]

theorem startCycle_noteTaken : startCycle (noteTaken s) = noteTaken (startCycle s) :=
  startSlot_noteTaken (s := { s with bus := { s.bus with counter := (s.bus.counter + 1) % 64, slots := slotList s } })

theorem resumePolling_noteTaken {next : BusState} :
    resumePolling next (noteTaken s) = noteTaken (resumePolling next s) :=
  startCycle_noteTaken (s := { s with bus := { s.bus with state := next, target := none, qualifier := .off } })

theorem leaveForQuiet_noteTaken : leaveForQuiet (noteTaken s) = noteTaken (leaveForQuiet s) := by
  have h : (activeBoxes (noteTaken s)).isEmpty = (activeBoxes s).isEmpty := rfl
  unfold leaveForQuiet
  rw [h]
  split
  · exact enterQuiet_noteTaken
  · rfl

theorem busQuiets_noteTaken : busQuiets (noteTaken s) = noteTaken (busQuiets s) := by
  have h : (noteTaken s).bus = s.bus := rfl
  unfold busQuiets
  rw [h]
  cases s.bus.state with
  | active => exact leaveForQuiet_noteTaken
  | woken => exact leaveForQuiet_noteTaken
  | draining | quiet | blocked => rfl

theorem busActivates_noteTaken : busActivates (noteTaken s) = noteTaken (busActivates s) := by
  have h : (noteTaken s).bus = s.bus := rfl
  unfold busActivates
  rw [h]
  cases s.bus.state with
  | quiet => exact resumePolling_noteTaken
  | active | woken | draining | blocked => rfl

/-- Settles O30: each of the four events in each state of the bus. -/
theorem busMovesBetweenStates : Obligations.BusMovesBetweenStates := by
  intro s
  dsimp only
  rw [← leaveForQuiet_eq]
  refine ⟨fun hs => ⟨?_, ?_⟩, fun hw ht => ?_, fun h => ?_, fun hb hl ht => ?_, fun hb hl ht => ?_, fun h => ?_⟩
  · exact exec_eq_answered rfl hs (congrArg (answer .ok .nothing) busQuiets_noteTaken)
  · exact exec_eq_answered rfl hs (congrArg (answer .ok .nothing) busActivates_noteTaken)
  · exact congrArg Host.Outcome.next (if_pos ⟨hw, Option.isSome_iff_ne_none.2 ht⟩)
  · exact congrArg Host.Outcome.next (if_neg fun ⟨hw, ht⟩ => h ⟨hw, Option.isSome_iff_ne_none.1 ht⟩)
  · have hactive : recovers s = resumePolling .active s := by rw [recovers, hb, hl, ht]
    exact congrArg Host.Outcome.next hactive
  · exact congrArg Host.Outcome.next (by rw [recovers, hb, hl, ht])
  · refine congrArg Host.Outcome.next ?_
    rcases recovers_cases (s := s) with ⟨hb, hl, ht, -⟩ | ⟨hb, hl, ht, -⟩ | hsame
    · exact absurd ⟨hb, hl, by rw [ht]; exact Option.some_ne_none _⟩ h
    · exact absurd ⟨hb, hl, by rw [ht]; exact Option.some_ne_none _⟩ h
    · exact hsame

/-! ## The attention line -/

/-- Settles O33: the step lemma for the line, beside what each change of an item or the mask does. -/
theorem attentionLineFollows : Obligations.AttentionLineFollows := by
  refine ⟨fun i => ?_, fun l => ?_, fun p => ?_, fun i s => ?_, fun s => ⟨fun h => ?_, fun h => ?_⟩, fun s t => lineAgrees_of_step⟩
  · cases i <;> rfl
  · cases l <;> simp [lineLevel]
  · refine line_followLine.trans ?_
    cases p.line with
    | released => exact if_congr attentionCondition_iff rfl rfl
    | asserted => exact if_congr attentionCondition_iff rfl rfl
    | holding => rfl
  · refine ⟨?_, fun j => getLsbD_raise j.isLt⟩
    dsimp only
    rw [items_raise]
    rfl
  · refine congrArg (fun p => Host.Outcome.next { s with port := p }) ?_
    unfold deassertExpired
    rw [h]
    exact congrArg (fun l => { s.port with line := l }) (if_congr attentionCondition_iff rfl rfl)
  · refine congrArg (fun p => Host.Outcome.next { s with port := p }) ?_
    unfold deassertExpired
    cases hl : s.port.line with
    | holding => exact absurd hl h
    | asserted | released => rfl

/-! ## The wake qualifier -/

theorem tfElapses_eq : tfElapses s = if s.bus.state = .quiet
    then qualifierAtTf { s with bus := { s.bus with heldTf := true } }
    else { s with bus := { s.bus with heldTf := true } } := rfl

/-- A qualified wake pattern: the flag, the Wake item once per rest, T_inact, a new cycle (R39). -/
theorem wakes_eq : wakes s = startCycle { (if s.bus.firstWake = true then s else raise .wake s) with
    bus := { s.bus with
      state := .woken, target := none, qualifier := .off, firstWake := true
      tInact := some s.settings.tInact, flags := s.bus.flags ||| 16#6 } } := by
  have hbit : BitVec.twoPow 6 (busFlagBit .wakeSeen) = 16#6 := by decide
  rw [wakes, setBusFlag, hbit]
  dsimp only
  cases h : s.bus.firstWake with
  | true => rw [if_pos rfl, if_pos rfl, resumePolling]
  | false => rw [if_neg Bool.false_ne_true, if_neg Bool.false_ne_true] <;> rfl

/-- The qualifier after the level was held for Tf on a Quiet bus (R38). -/
def qualifierHeld (level : LineLevel) (q : Qualifier) : Qualifier :=
  match q with
  | .recovering => if level = .idle then .ready else .recovering
  | .seeking n => if n < 2 ∧ level = soughtLevel n then .seeking (n + 1) else .seeking n
  | .off => .off
  | .ready => .ready

theorem bus_qualifier {q : Qualifier} (h : s.bus.qualifier = q) : s = { s with bus := { s.bus with qualifier := q } } := by
  rw [← h]

theorem qualifierAtTf_eq (h : ∀ n, s.bus.qualifier = .seeking n → 2 ≤ n → s.bus.level ≠ .active) :
    qualifierAtTf s = { s with bus := { s.bus with qualifier := qualifierHeld s.bus.level s.bus.qualifier } } := by
  unfold qualifierAtTf
  cases hq : s.bus.qualifier with
  | off => exact bus_qualifier hq
  | ready => exact bus_qualifier hq
  | recovering =>
    rw [qualifierHeld]
    dsimp only
    split
    · rfl
    · exact bus_qualifier hq
  | seeking n =>
    rw [qualifierHeld]
    dsimp only
    by_cases hn : n < 2
    · by_cases hl : s.bus.level = soughtLevel n
      · rw [if_pos hl, if_pos hn, if_pos ⟨hn, hl⟩]
      · rw [if_neg hl, if_neg fun h => hl h.2]
        exact bus_qualifier hq
    · have hsought : soughtLevel n = .active := if_neg (by omega)
      rw [if_neg (hsought ▸ h n hq (by omega)), if_neg fun h => hn h.1]
      exact bus_qualifier hq

theorem qualifierAtTf_wakes {n : Nat} (hq : s.bus.qualifier = .seeking n) (hn : 2 ≤ n) (hl : s.bus.level = .active) :
    qualifierAtTf s = wakes s := by
  have hsought : soughtLevel n = .active := if_neg (by omega)
  unfold qualifierAtTf
  rw [hq]
  dsimp only
  rw [if_pos (hl.trans hsought.symm), if_neg (by omega)]

/-- Settles O41: an edge, the qualifier where the level was held for Tf, the wake, and the end of the window. -/
theorem lineEventsQualifyWakes : Obligations.LineEventsQualifyWakes := by
  intro s
  refine ⟨fun held transmitting => ?_, fun level held transmitting h => ?_, ⟨fun h => ?_, fun h => ?_⟩, ?_⟩
  · exact congrArg Host.Outcome.next (by rw [edge, if_pos rfl])
  · refine congrArg (fun b => Host.Outcome.next { s with bus := b }) ?_
    rw [edge, if_neg h]
    have hstuck : stuckAfter s.bus level held.toNat transmitting =
        if level = .active then (if held.toNat = 0 then s.bus.stuck else 0)
        else if transmitting = true then s.bus.stuck + held.toNat else 0 := by
      cases level with
      | idle => rfl
      | active =>
        by_cases h0 : held.toNat = 0
        · simp [stuckAfter, h0]
        · simp [stuckAfter, h0, Nat.pos_of_ne_zero h0]
    rw [hstuck]
    rfl
  · refine congrArg Host.Outcome.next ?_
    rw [tfElapses_eq]
    by_cases hquiet : s.bus.state = .quiet
    · have hphase (n : Nat) (hq : s.bus.qualifier = .seeking n) (hn : 2 ≤ n) (hl : s.bus.level = .active) : False :=
        h ⟨hquiet, by rw [hq]; exact decide_eq_true hn, hl⟩
      refine (if_pos hquiet).trans
        ((qualifierAtTf_eq (s := { s with bus := { s.bus with heldTf := true } }) hphase).trans ?_)
      refine congrArg (fun q => ({ s with bus := { s.bus with heldTf := true, qualifier := q } } : State)) ?_
      dsimp only
      cases s.bus.qualifier with
      | off | ready => rfl
      | recovering => exact if_congr (by simp [hquiet]) rfl rfl
      | seeking n => exact if_congr (by simp [hquiet, soughtLevel]) rfl rfl
    · rw [if_neg hquiet]
      refine congrArg (fun q => ({ s with bus := { s.bus with heldTf := true, qualifier := q } } : State)) ?_
      cases s.bus.qualifier with
      | off | ready => rfl
      | recovering => exact (if_neg fun h => hquiet h.1).symm
      | seeking n => exact (if_neg fun h => hquiet h.1).symm
  · obtain ⟨hquiet, hthird, hactive⟩ := h
    refine congrArg Host.Outcome.next ?_
    rw [tfElapses_eq, if_pos hquiet]
    cases hq : s.bus.qualifier with
    | seeking n =>
      have hn : 2 ≤ n := by
        rw [hq] at hthird
        exact of_decide_eq_true hthird
      exact (qualifierAtTf_wakes (s := { s with bus := { s.bus with heldTf := true } }) hq hn hactive).trans wakes_eq
    | off | ready | recovering =>
      rw [hq] at hthird
      cases hthird
  · refine congrArg (fun b => Host.Outcome.next { s with bus := b }) ?_
    have hsame (q : Qualifier) (h : s.bus.qualifier = q) : s.bus = { s.bus with qualifier := q } := by rw [← h]
    unfold windowExpires recoveringFrom
    cases hq : s.bus.qualifier with
    | off | ready | recovering => exact hsame _ hq
    | seeking n =>
      by_cases hquiet : s.bus.state = .quiet
      · simp only [hquiet, if_true]
      · simp only [hquiet, if_false]
        exact hsame _ hq

end Sys2Proof.Machine
end

section
/-! A service reset (R46, R64, R85, R128, R167, R188, R199). -/

namespace Sys2Proof.Machine

open Sys2Proof

variable {s t : State} {c d : Box} {l : List Box} {ended : List LogRecord}

/-! ## The cycles -/

/-- The state after every cycle of a service reset ended. -/
def resetEnds (s : State) : State :=
  (freeOrder s.draws (activeBoxes s)).foldl (endStep .cut .resetEnd id) { s with draws := s.draws + 1 }

theorem endCut_eq : endCut = endStep .cut .resetEnd id := by
  funext s c
  rw [endStep, modHatch_eq_modBay, modBay_id rfl, endCut]

theorem resetCycles_eq : resetCycles s = { resetEnds s with bays := (resetCycles s).bays } := by
  rw [resetCycles, endCut_eq]
  dsimp only [State.mapBays]
  rw [resetEnds]

theorem bay_resetCycles : (resetCycles s).bay c = freshDemand (resetEnds s).settings.tCl ((resetEnds s).bay c) := by
  rw [resetCycles, endCut_eq]
  exact bay_mapBays (s := resetEnds s)

theorem cyclesEnded_resetEnds (h : s.cyclesAgree) : ∃ ended, CyclesEnded .cut .resetEnd id
    (freeOrder s.draws (activeBoxes s)) ended { s with draws := s.draws + 1 } (resetEnds s) :=
  cyclesEnded_foldl (by simp) _ { s with draws := s.draws + 1 } nodup_freeOrder
    (fun _ => cycle_ne_none_iff_mem_freeOrder (s := s)) (cards_of_cyclesAgree h).2.1

/-! ## The orders -/

/-- The entry of an order finished by a service reset (R167). -/
def resetEntry (time : Option Stamp) (o : Order) : HistoryEntry :=
  { number := o.number, label := o.label, container := o.container, origin := o.origin, outcome := .reset
    mark := o.abortRequested, cause := none, mass := none, vehicle := o.vehicle, time := time, attempts := o.attempts }

theorem endReset_fate {o : Order} (h : s.orderOf o.container = some o) (hn : (s.orders.map Order.container).Nodup) :
    endReset s o.container = appended (some (resetEntry (stamp s) o)).toList
      { s with orders := handledOrders (fun o => (none, some (resetEntry (stamp s) o))) [o.container] s.orders } := by
  rw [handledOrders_single h hn, endReset, finishOrder_some h, filterMap_drop]
  rfl

theorem resetOrders_eq (hn : (s.orders.map Order.container).Nodup) : resetOrders s =
    appended ((ranked s.orders).map (resetEntry (stamp s))) { s with orders := [] } := by
  have hperm : (ranked s.orders).Perm s.orders := perm_ranked
  have hfold := foldl_handledOrders (f := endReset) (g := fun o => (none, some (resetEntry (stamp s) o))) (stamped := stamp s)
    (by simp) (fun t o ht hnt ho => by rw [← ht]; exact endReset_fate ho hnt) (ranked s.orders) s rfl hn
    ((hperm.map _).nodup_iff.2 hn) fun o ho => hperm.mem_iff.1 ho
  have hlist : handledOrders (fun o => (none, some (resetEntry (stamp s) o))) ((ranked s.orders).map Order.container)
      s.orders = [] := by
    refine List.filterMap_eq_nil_iff.2 fun x hx => if_pos ?_
    exact List.mem_map_of_mem (hperm.mem_iff.2 hx)
  rw [resetOrders, hfold, hlist]
  exact congrArg (fun es => appended es { s with orders := [] }) (congrFun List.filterMap_eq_map _)

/-! ## Holds, bus, windows and displays -/

/-- What the parts of a service reset after the orders leave at a container. -/
def restBay (first : Bool) (len : Nat) (b : Bay) : Bay :=
  let b := { b with hold := ({} : Hold), column := resetColumn b.column }
  let b := if first then slotBay len b else b
  { b with est := { b.est with window := [] }, display := none }

/-- Those parts of a service reset (R46, R85, R128, R188). -/
def resetRest (s : State) : State :=
  resetDisplays (resetWindows (resetBus (resetHolds s)))

/-- The columns that are present, in ascending number. -/
def presentBoxes (s : State) : List Box :=
  allBoxes.filter fun c => (s.bay c).record.config.present

/-- The columns with the counters and the answers of the bus cleared. -/
def resetColumns (s : State) : State :=
  s.mapBays fun b => { b with column := resetColumn b.column }

theorem bay_resetColumns : (resetColumns s).bay c = { s.bay c with column := resetColumn (s.bay c).column } :=
  bay_mapBays

theorem settings_resetColumns : (resetColumns s).settings = s.settings :=
  settings_mapBays

theorem presentBoxes_congr (h : ∀ d, (t.bay d).record = (s.bay d).record) : presentBoxes t = presentBoxes s :=
  List.filter_congr fun d _ => by rw [h d]

theorem slotList_eq : slotList s = (presentBoxes s).map some ++ List.replicate (8 - (presentBoxes s).length) none :=
  rfl

theorem slotList_resetColumns : slotList (resetColumns s) = slotList s := by
  rw [slotList_eq, slotList_eq, presentBoxes_congr (s := s) fun d => by rw [bay_resetColumns]]

/-- The bus a service reset leaves for the cycle that starts (R46). -/
def freshBus (b : Bus) : Bus :=
  { b with state := .active, target := none, firstWake := false, qualifier := .off, tInact := none, stuck := 0 }

theorem resetBus_eq : resetBus s = startCycle { resetColumns s with bus := freshBus (resetColumns s).bus } :=
  rfl

theorem resetBus_frame : resetBus s = { s with
    bays := (resetBus s).bays
    bus := { freshBus s.bus with counter := (s.bus.counter + 1) % 64, slots := slotList s } } := by
  have hslots := slotList_resetColumns (s := s)
  obtain ⟨bv, h⟩ : ∃ b, resetColumns s = { s with bays := b } := mapBays_frame
  rw [resetBus_eq]
  generalize resetColumns s = u at *
  have hlist : slotList { u with bus := freshBus u.bus } = slotList s := hslots
  rw [startCycle_eq, hlist]
  generalize (startCycle { u with bus := freshBus u.bus }).bays = bays
  rw [h]
  rfl

theorem bay_resetBus : (resetBus s).bay c =
    if (presentBoxes s).head? = some c then slotBay s.settings.tCl { s.bay c with column := resetColumn (s.bay c).column }
    else { s.bay c with column := resetColumn (s.bay c).column } := by
  have hpresent := presentBoxes_congr (t := resetColumns s) (s := s) fun d => by rw [bay_resetColumns]
  have hbay := bay_resetColumns (s := s) (c := c)
  have hsettings := settings_resetColumns (s := s)
  rw [resetBus_eq]
  generalize resetColumns s = u at *
  have hstart := bay_startCycle (s := { u with bus := freshBus u.bus }) (d := c)
  rw [hstart, ← hbay, ← hsettings, ← hpresent]
  rfl

theorem bay_resetHolds : (resetHolds s).bay c = { s.bay c with hold := {} } := by
  have h : (resetHolds s).bays = (s.mapBays fun b => { b with hold := {} }).bays := by rw [resetHolds_eq]
  rw [bay_of_bays_eq h, bay_mapBays]

theorem presentBoxes_resetHolds : presentBoxes (resetHolds s) = presentBoxes s :=
  presentBoxes_congr fun d => by rw [bay_resetHolds]

theorem resetRest_frame : resetRest s = { s with
    bays := (resetRest s).bays, dock := none
    bus := { freshBus s.bus with counter := (s.bus.counter + 1) % 64, slots := slotList s } } := by
  have hslots : slotList (resetHolds s) = slotList s := by
    rw [slotList_eq, slotList_eq, presentBoxes_resetHolds]
  have hframe := resetBus_frame (s := resetHolds s)
  rw [hslots] at hframe
  obtain ⟨bv, h⟩ : ∃ b, resetHolds s = { s with bays := b, dock := none } := ⟨_, resetHolds_eq⟩
  rw [resetRest, resetDisplays, resetWindows]
  generalize resetHolds s = u at *
  generalize resetBus u = v at *
  simp only [State.mapBays]
  rw [hframe, h]

theorem bay_resetRest : (resetRest s).bay c =
    restBay (decide ((presentBoxes s).head? = some c)) s.settings.tCl (s.bay c) := by
  have hsettings : (resetHolds s).settings = s.settings := by rw [resetHolds_eq]
  rw [resetRest, resetDisplays, bay_mapBays, resetWindows, bay_mapBays, bay_resetBus, bay_resetHolds,
    presentBoxes_resetHolds, hsettings, restBay]
  by_cases h : (presentBoxes s).head? = some c
  · simp only [h, if_true, decide_true]
  · simp only [h, if_false, decide_false]
    rfl

/-! ## The whole reset -/

/-- The records of a container after the cycles of a service reset ended. -/
def endedResetBay (s : State) (c : Box) : Bay :=
  freshDemand s.settings.tCl (quieted (s.bus.state = .draining ∧ activeBoxes s ≠ [])
    (if (s.bay c).hatch.cycle = none then s.bay c
    else stoppedBay .resetEnd id (isPolling s.bus) s.settings.tCl (s.bay c).est (s.bay c)))

theorem record_endedResetBay : (endedResetBay s c).record = (s.bay c).record := by
  unfold endedResetBay freshDemand quieted
  split <;> split <;> rfl

/-- The records of a container after a service reset, part after part (R199). -/
def districtBay (s : State) (c : Box) : Bay :=
  restBay (decide ((presentBoxes s).head? = some c)) s.settings.tCl (endedResetBay s c)

/-- The newest of the entries a service reset appends (R163, R167). -/
def resetHistory (s : State) : List HistoryEntry :=
  (s.history ++ (ranked s.orders).map (resetEntry (stamp s))).drop
    (s.history.length + s.orders.length - max 64 s.history.length)

/-- The orders of a service reset overrun the history. -/
abbrev ResetWraps (s : State) : Prop :=
  s.orders ≠ [] ∧ 64 < s.history.length + s.orders.length

/-- What the ended cycles and orders of a service reset leave in cards, log, history and port. -/
structure ResetRecords (ended : List LogRecord) (s t : State) : Prop where
  openCards : t.openCards = []
  reserved : t.reserved = 0
  orders : t.orders = []
  orderCounter : t.orderCounter = s.orderCounter
  wrapped : t.wrapped = (s.wrapped || decide (ResetWraps s))
  cards : t.cards = s.cards.map (refunded s.settings.plans (cyclesOf s allBoxes))
  log : t.log = s.log ++ ended
  history : t.history = resetHistory s
  portRest : t.port = { s.port with items := t.port.items, line := t.port.line }
  containers : (ended.map LogRecord.container).Perm (activeBoxes s)
  records : ∀ r ∈ ended, RecordsEnd .cut s t.cards r
  sequence : t.nextSequence = if s.openCards = [] then s.nextSequence
    else (s.nextSequence + s.openCards.length) % 4294967296
  items : ∀ j < 10, t.port.items.getLsbD j = (s.port.items.getLsbD j ||
    decide (j = 1 ∧ s.log.length < 768 ∧ 768 ≤ s.log.length + s.openCards.length ∨
      j = 7 ∧ s.orders ≠ [] ∧ (s.history = [] ∨ s.wrapped = false ∧ ResetWraps s)))
  line : LineFollows s.port t.port

/-- What a service reset leaves, with the records of the cycles it ended. -/
structure DistrictReset (ended : List LogRecord) (s t : State) : Prop extends ResetRecords ended s t where
  frame : t = { s with
    bays := t.bays
    bus := { freshBus s.bus with counter := (s.bus.counter + 1) % 64, slots := slotList s }
    cards := t.cards, openCards := [], reserved := 0, log := t.log, nextSequence := t.nextSequence, orders := []
    history := t.history, wrapped := s.wrapped || decide (ResetWraps s), dock := none, draws := t.draws, port := t.port }
  bays : ∀ c, t.bay c = districtBay s c

/-- The first two parts of a service reset: cycles and orders ended (R64, R167). -/
theorem historyGrown_resetOrders (hn : (s.orders.map Order.container).Nodup)
    (h : CyclesEnded .cut .resetEnd id l ended { s with draws := s.draws + 1 } (resetEnds s)) :
    HistoryGrown ((ranked s.orders).map (resetEntry (stamp s))) { resetCycles s with orders := [] }
      (resetOrders (resetCycles s)) := by
  have horders : (resetCycles s).orders = s.orders := by
    rw [resetCycles_eq]
    exact (h.orders (by simp)).1
  have hclock : (resetCycles s).clock = s.clock := by
    rw [resetCycles_eq]
    generalize resetEnds s = A at h
    rw [h.frame]
  have hstamp : stamp (resetCycles s) = stamp s := by rw [stamp, stamp, hclock]
  have hreset := resetOrders_eq (s := resetCycles s) (by rw [horders]; exact hn)
  rw [horders, hstamp] at hreset
  rw [hreset]
  exact historyGrown_appended ..

/-- What no part of a service reset changes. -/
def ResetKeeps (s t : State) : Prop :=
  t = { s with
    bays := t.bays, bus := t.bus, cards := t.cards, openCards := t.openCards, reserved := t.reserved, log := t.log
    nextSequence := t.nextSequence, orders := t.orders, orderCounter := t.orderCounter, history := t.history
    wrapped := t.wrapped, dock := t.dock, draws := t.draws, port := t.port }

theorem resetKeeps_of {bays : Vector Bay 32} {bus : Bus} {cards : List CardRecord} {openCards : List Nat} {reserved : Nat}
    {log : List LogRecord} {next : Nat} {orders : List Order} {counter : Nat} {history : List HistoryEntry} {wrapped : Bool}
    {dock : Option DockRecord} {draws : Nat} {port : Port} (h : t = { s with
      bays := bays, bus := bus, cards := cards, openCards := openCards, reserved := reserved, log := log
      nextSequence := next, orders := orders, orderCounter := counter, history := history, wrapped := wrapped
      dock := dock, draws := draws, port := port }) : ResetKeeps s t := by
  rw [ResetKeeps, h]

theorem ResetKeeps.trans {u : State} (h : ResetKeeps s t) (h' : ResetKeeps t u) : ResetKeeps s u := by
  unfold ResetKeeps at *
  rw [h] at h'
  exact h'

theorem freeOrder_eq_nil {n : Nat} : freeOrder n (activeBoxes s) = [] ↔ activeBoxes s = [] := by
  rw [← List.length_eq_zero_iff, (freeOrder_perm _).length_eq, List.length_eq_zero_iff]

theorem bay_endedReset {n : Nat} {A : State}
    (h : CyclesEnded .cut .resetEnd id (freeOrder s.draws (activeBoxes s)) ended { s with draws := n } A) :
    freshDemand A.settings.tCl (A.bay c) = endedResetBay s c := by
  have hsettings : A.settings = s.settings := by rw [h.frame]
  obtain ⟨e, he, hc⟩ := h.bays c
  obtain rfl : e = (s.bay c).est := he.trans (if_neg fun h => by cases h.1)
  rw [hsettings, hc, endedResetBay]
  refine congrArg (freshDemand _) ?_
  rw [quieted_congr (and_congr_right fun _ => not_congr freeOrder_eq_nil)]
  refine congrArg (quieted _) ?_
  by_cases hk : (s.bay c).hatch.cycle = none
  · rw [if_pos hk, if_neg fun hm => cycle_ne_none_iff_mem_freeOrder.2 hm hk]
    rfl
  · rw [if_neg hk, if_pos (cycle_ne_none_iff_mem_freeOrder.1 hk)]
    rfl

theorem length_resetEntries : ((ranked s.orders).map (resetEntry (stamp s))).length = s.orders.length := by
  rw [List.length_map]
  exact perm_ranked.length_eq

theorem resetEntries_eq_nil : (ranked s.orders).map (resetEntry (stamp s)) = [] ↔ s.orders = [] := by
  rw [← List.length_eq_zero_iff, length_resetEntries, List.length_eq_zero_iff]

/-- The cards, the log, the history and the port from the ends of the cycles and then of the orders. -/
theorem resetRecords_of {A B C : State} (hcyc : s.cyclesAgree) (hline : s.port.lineAgrees)
    (hends : CyclesEnded .cut .resetEnd id (freeOrder s.draws (activeBoxes s)) ended { s with draws := s.draws + 1 } A)
    (hB : B = { A with bays := B.bays })
    (hgrown : HistoryGrown ((ranked s.orders).map (resetEntry (stamp s))) { B with orders := [] } C) :
    ResetRecords ended s C := by
  obtain ⟨hperm, hnodup, hopen, hreserved⟩ := cards_of_cyclesAgree (n := s.draws) hcyc
  have hlnil : freeOrder s.draws (activeBoxes s) = [] ↔ s.openCards = [] := by
    rw [← List.length_eq_zero_iff, ← hopen, List.length_eq_zero_iff]
  have hhistory : B.history = s.history := by rw [hB, hends.frame]
  have hwrapped : B.wrapped = s.wrapped := by rw [hB, hends.frame]
  have hport : B.port = A.port := by rw [hB]
  have hcards : C.cards = s.cards.map (refunded s.settings.plans (cyclesOf s (freeOrder s.draws (activeBoxes s)))) := by
    rw [hgrown.frame, hB, hends.frame]
    rfl
  have hfirst := hends.line hline
  have hgrows := hgrown.line (hport ▸ hfirst.follows ▸ lineAgrees_followLine)
  refine ⟨?_, ?_, by rw [hgrown.frame], ?_, ?_, ?_, ?_, ?_, ?_, ?_, fun r hr => ?_, ?_, fun j hj => ?_,
    hfirst.trans hline (hport ▸ hgrows)⟩
  · rw [hgrown.frame, hB]
    exact hends.openCards hperm
  · rw [hgrown.frame, hB, hends.frame]
    dsimp only
    rw [hreserved, Nat.sub_self]
  · rw [hgrown.frame, hB]
    exact (hends.orders (by simp)).2
  · rw [hgrown.frame]
    dsimp only
    rw [hhistory, hwrapped, length_resetEntries]
    exact congrArg _ (decide_eq_decide.2 (and_congr_left fun _ => not_congr resetEntries_eq_nil))
  · rw [hcards, ← refunded_perm cyclesOf_freeOrder_perm hnodup]
  · rw [hgrown.frame, hB, hends.frame]
  · rw [hgrown.frame]
    dsimp only
    rw [hhistory, length_resetEntries]
    rfl
  · rw [hgrown.frame]
    dsimp only
    rw [hport, hends.portRest]
  · rw [hends.containers]
    exact freeOrder_perm _
  · rw [hcards]
    exact hends.records r hr
  · have hnext : C.nextSequence = A.nextSequence := by rw [hgrown.frame, hB]
    rw [hnext, hends.sequence, hopen]
    exact if_congr hlnil rfl rfl
  · rw [hgrown.items j hj]
    dsimp only
    rw [hport, hends.items j hj, Bool.or_assoc, ← Bool.decide_or, hhistory, hwrapped, length_resetEntries, hopen]
    refine congrArg _ (decide_eq_decide.2 ?_)
    rw [ne_eq, resetEntries_eq_nil]

theorem districtReset_serviceResets (hcyc : s.cyclesAgree) (hn : (s.orders.map Order.container).Nodup)
    (hline : s.port.lineAgrees) : ∃ ended, DistrictReset ended s (serviceResets s) := by
  obtain ⟨ended, hends⟩ := cyclesEnded_resetEnds hcyc
  have hgrown := historyGrown_resetOrders hn hends
  have hcycles := resetCycles_eq (s := s)
  have hbay (c : Box) := bay_resetCycles (s := s) (c := c)
  have hrest := resetRest_frame (s := resetOrders (resetCycles s))
  have hrestBay (c : Box) := bay_resetRest (s := resetOrders (resetCycles s)) (c := c)
  have hdef : serviceResets s = resetRest (resetOrders (resetCycles s)) := rfl
  rw [hdef]
  generalize resetRest (resetOrders (resetCycles s)) = D at *
  generalize resetOrders (resetCycles s) = C at *
  generalize resetCycles s = B at *
  generalize resetEnds s = A at *
  have h := resetRecords_of hcyc hline hends hcycles hgrown
  have hCbay (c : Box) : C.bay c = endedResetBay s c := by
    have hbays : C.bay c = B.bay c := bay_of_bays_eq (by rw [hgrown.frame])
    rw [hbays, hbay, bay_endedReset hends]
  have hpresent : presentBoxes C = presentBoxes s :=
    presentBoxes_congr fun d => by rw [hCbay, record_endedResetBay]
  have hrecords : ResetRecords ended s D := by
    rw [hrest]
    exact { h with }
  refine ⟨ended, hrecords, ?_, fun c => ?_⟩
  · have hbus : D.bus = { freshBus s.bus with counter := (s.bus.counter + 1) % 64, slots := slotList s } := by
      have hslots : slotList C = slotList s := by rw [slotList_eq, slotList_eq, hpresent]
      have hCbus : C.bus = A.bus := by rw [hgrown.frame, hcycles]
      rw [hrest, hslots, hCbus, hends.bus]
      split <;> rfl
    have hdock : D.dock = none := by rw [hrest]
    have hkeeps : ResetKeeps s D := (((resetKeeps_of hends.frame).trans (resetKeeps_of hcycles)).trans
      (resetKeeps_of (s := B) hgrown.frame)).trans (resetKeeps_of hrest)
    unfold ResetKeeps at hkeeps
    rwa [hrecords.openCards, hrecords.reserved, hrecords.wrapped, hbus, hrecords.orders, hdock,
      hrecords.orderCounter] at hkeeps
  · have hsettings : C.settings = s.settings := by rw [hgrown.frame, hcycles, hends.frame]
    rw [hrestBay, hpresent, hsettings, hCbay]
    rfl

/-! ## What a container holds after it -/

/-- The close demand a service reset sets (R57, R64). -/
def freshTimer (s : State) (c : Box) : Option CloseTimer :=
  if (s.bay c).record.config.present = true ∧ (s.bay c).column.last.map LastUplink.hatch ≠ some .closed then
    (if (s.bay c).column.lost = true then some .held else some (.running s.settings.tCl))
  else none

theorem lost_of_freshTimer (h : freshTimer s c = some .held) : (s.bay c).column.lost = true := by
  unfold freshTimer at h
  by_contra hl
  rw [if_neg hl] at h
  split at h <;> cases h

/-- The first downlink of the new cycle, where the column has the first slot (R25, R80). -/
def firstDownlink (demand : Option CloseTimer) (display : Option DenialReason) (r : ContainerRec) : Downlink :=
  { command := if demand = none then .keepClosed else .closeHatch
    display := match display with
      | some r => .denied r
      | none => if r.started = false ∨ r.fault ≠ .none then .outOfService else .idle
    tag := none }

theorem restBay_eq {first : Bool} {len : Nat} {b : Bay} (hcycle : b.hatch.cycle = none)
    (hlost : b.hatch.demand = some .held → b.column.lost = true) : restBay first len b =
    { record := b.record
      column := { b.column with
        consecutive := 0, total := 0, answer := none
        downlink := if first then some (firstDownlink b.hatch.demand b.display b.record) else b.column.downlink }
      hatch := b.hatch, display := none, est := { b.est with window := [] }, hold := {} } := by
  cases first with
  | false => rfl
  | true =>
    have hhatch : (if b.column.lost = true then b.hatch else resumeDemand len b.hatch) = b.hatch := by
      split
      next => rfl
      next h => exact congrArg (fun d => { b.hatch with demand := d }) (if_neg fun hd => h (hlost hd))
    have hcommand : hatchCommand b.hatch = if b.hatch.demand = none then .keepClosed else .closeHatch := by
      rw [hatchCommand_eq, hcycle]
      cases b.hatch.demand with
      | none => simp
      | some _ => simp
    have hdisplay : displayCode { b with hold := {}, column := resetColumn b.column } =
        match b.display with
        | some r => .denied r
        | none => if b.record.started = false ∨ b.record.fault ≠ .none then .outOfService else .idle := by
      rw [displayCode_eq, if_neg fun h => h hcycle]
      dsimp only
      cases b.display with
      | some _ => rfl
      | none =>
        rw [standingCode_eq, opState_eq_ite]
        dsimp only
        rw [hcycle]
        cases b.record.started with
        | false => simp
        | true => by_cases hf : b.record.fault = .none <;> cases b.est.closeFlag <;> simp [hf]
    have hlast : slotBay len { b with hold := {}, column := resetColumn b.column } = { b with
        hold := {}, column := { resetColumn b.column with
          downlink := some (firstDownlink b.hatch.demand b.display b.record) } } := by
      unfold slotBay
      have hlost' : (resetColumn b.column).lost = b.column.lost := rfl
      dsimp only
      rw [hlost', hhatch, downlinkOf_eq]
      dsimp only
      rw [hcommand, hdisplay]
      rfl
    unfold restBay
    dsimp only
    rw [if_pos rfl, hlast, if_pos rfl]
    rfl

theorem endedResetBay_eq : ∃ h : Hold, endedResetBay s c =
    { s.bay c with
      hatch := { (s.bay c).hatch with
        cycle := none
        tOw := if (s.bay c).hatch.cycle = none then (s.bay c).hatch.tOw else none
        tDep := if (s.bay c).hatch.cycle = none then (s.bay c).hatch.tDep else none
        demand := freshTimer s c }
      column := { (s.bay c).column with
        answer := if s.bus.state = .draining ∧ activeBoxes s ≠ [] then none else (s.bay c).column.answer }
      display := if s.bus.state = .draining ∧ activeBoxes s ≠ [] then none else (s.bay c).display
      hold := h } := by
  have hdemand (b : Bay) (hr : b.record = (s.bay c).record) (hl : b.column.lost = (s.bay c).column.lost)
      (hu : b.column.last = (s.bay c).column.last) : freshDemand s.settings.tCl b =
      { b with hatch := { b.hatch with demand := freshTimer s c } } := by
    rw [freshDemand, hr, hl, hu]
    rfl
  unfold endedResetBay quieted
  by_cases hk : (s.bay c).hatch.cycle = none
  · have hsame : (s.bay c).hatch = { (s.bay c).hatch with cycle := none } := by rw [← hk]
    rw [if_pos hk, if_pos hk, if_pos hk]
    split
    · rw [hdemand (stopPollingBay (s.bay c)) rfl rfl rfl]
      refine ⟨(s.bay c).hold, ?_⟩
      conv_lhs => rw [stopPollingBay, hsame]
    · rw [hdemand (s.bay c) rfl rfl rfl]
      refine ⟨(s.bay c).hold, ?_⟩
      conv_lhs => rw [hsame]
  · rw [if_neg hk, if_neg hk, if_neg hk]
    generalize hb : stoppedBay .resetEnd id (isPolling s.bus) s.settings.tCl (s.bay c).est (s.bay c) = b
    split
    · rw [hdemand (stopPollingBay b) (by rw [← hb]; rfl) (by rw [← hb]; rfl) (by rw [← hb]; rfl), ← hb]
      exact ⟨_, rfl⟩
    · rw [hdemand b (by rw [← hb]; rfl) (by rw [← hb]; rfl) (by rw [← hb]; rfl), ← hb]
      exact ⟨_, rfl⟩

/-- The command answered at once on a free port, in the state that its parts leave. -/
theorem exec_serviceReset {D : State} (hs : s.portIsFree) (hD : serviceResets (noteTaken s) = D)
    (hport : D.port.discarded = false ∧ D.port.frame = .waiting) : exec (.serviceReset 0) s =
    .next (answered D .ok (.resetCounts (activeBoxes s).length s.orders.length)) := by
  obtain ⟨hdiscarded, hframe⟩ := hport
  refine (exec_of_portIsFree rfl hs).trans (congrArg Host.Outcome.next ?_)
  have hcarry : carryOut (.serviceReset 0) (noteTaken s) =
      answer .ok (.resetCounts (activeBoxes s).length s.orders.length) D :=
    congrArg (answer .ok _) hD
  rw [carryNow, hcarry, answered, ← hdiscarded, ← hframe]
  rfl

theorem districtBay_eq : districtBay s c =
    { record := (s.bay c).record
      column := { (s.bay c).column with
        consecutive := 0, total := 0, answer := none
        downlink := if (presentBoxes s).head? = some c then
            some (firstDownlink (freshTimer s c)
              (if s.bus.state = .draining ∧ activeBoxes s ≠ [] then none else (s.bay c).display) (s.bay c).record)
          else (s.bay c).column.downlink }
      hatch := { (s.bay c).hatch with
        cycle := none
        tOw := if (s.bay c).hatch.cycle = none then (s.bay c).hatch.tOw else none
        tDep := if (s.bay c).hatch.cycle = none then (s.bay c).hatch.tDep else none
        demand := freshTimer s c }
      display := none, est := { (s.bay c).est with window := [] }, hold := {} } := by
  obtain ⟨h, he⟩ := endedResetBay_eq (s := s) (c := c)
  rw [districtBay, he, restBay_eq rfl lost_of_freshTimer]
  simp only [decide_eq_true_eq]

/-- Settles O34: the parts of the reset one after another, as `DistrictReset` collects them. -/
theorem serviceResetClearsTheDistrict : Obligations.ServiceResetClearsTheDistrict := by
  intro s hs hcyc hfit hline cycles ending present wraps
  obtain ⟨ended, hreset⟩ := districtReset_serviceResets (s := noteTaken s) hcyc hfit.1 hline
  have hactive : (activeBoxes s).length = cycles := by
    rw [← (freeOrder_perm (n := s.draws) (activeBoxes s)).length_eq, ← (cards_of_cyclesAgree hcyc).2.2.1]
  have hnil : activeBoxes s ≠ [] ↔ 1 ≤ cycles := by
    rw [← List.length_pos_iff, hactive]
    exact Iff.rfl
  generalize hD : serviceResets (noteTaken s) = D at hreset
  obtain ⟨⟨-, -, -, -, -, hcards, hlog, hhistory, hportRest, hcontainers, hrecords, hsequence, hitems, hfollows⟩, hframe,
    hbays⟩ := hreset
  have hport : D.port = { s.port with
      discarded := false, frame := .waiting, items := D.port.items, line := D.port.line } := hportRest
  refine ⟨_, exec_serviceReset hs hD ⟨by rw [hport], by rw [hport]⟩, ?_, ?_, ?_, ⟨ended, ?_, ?_, ?_, ?_, fun r hr => ?_⟩,
    ?_, ?_, ?_, fun c => ?_⟩
  · rw [hactive]
    rfl
  · have hwaiting : s.port.waiting = D.port.waiting := by rw [hport]
    have hsummary : s.port.summary = D.port.summary := by rw [hport]
    have hmask : s.port.mask = D.port.mask := by rw [hport]
    refine (congrArg (fun u => answered u .ok (.resetCounts (activeBoxes s).length s.orders.length)) hframe).trans ?_
    rw [hwaiting, hsummary, hmask]
    rfl
  · exact hcards
  · exact hlog
  · exact hcontainers
  · intro h0
    exact hsequence.trans (if_pos (List.length_eq_zero_iff.1 h0))
  · intro h1
    exact hsequence.trans (if_neg fun h => by rw [show cycles = 0 from List.length_eq_zero_iff.2 h] at h1; omega)
  · exact hrecords r hr
  · exact hhistory
  · intro i
    rw [show (answered D .ok (.resetCounts (activeBoxes s).length s.orders.length)).port.items = D.port.items from rfl,
      hitems i i.isLt]
    have hval (n : Fin 10) : i.val = n.val ↔ i = n := Fin.ext_iff.symm
    exact congrArg _ (decide_eq_decide.2 (or_congr (and_congr_left fun _ => hval 1) (and_congr_left fun _ => hval 7)))
  · refine (congrArg Port.line hfollows.follows).trans ?_
    have hmarks := followLine_marks (p := { s.port with items := D.port.items }) (d := false) (f := .waiting)
    exact (congrArg Port.line hmarks :)
  · have hsame : districtBay (noteTaken s) c = districtBay s c := rfl
    have hc := ((hbays c).trans hsame).trans districtBay_eq
    have hdemand : (D.bay c).hatch.demand = freshTimer s c := by rw [hc]
    have hstops : (if s.bus.state = .draining ∧ activeBoxes s ≠ [] then none else (s.bay c).display) =
        if s.bus.state = .draining ∧ 1 ≤ cycles then none else (s.bay c).display :=
      if_congr (and_congr_right fun _ => hnil) rfl rfl
    rw [hstops] at hc
    have hbay : (answered D .ok (.resetCounts (activeBoxes s).length s.orders.length)).bay c = D.bay c := rfl
    rw [hbay, hdemand]
    exact hc

end Sys2Proof.Machine
end

section
/-! Frames and the byte layouts of the operations port (R189, R190, R201, R203). -/

namespace Sys2Proof.Machine

open Sys2Proof

variable {s t : State} {c d : Box} {n k : Nat} {p : Port}

/-! ## Numbers in bytes -/

/-- The byte of a number at a place, counted from the least significant one (R192). -/
def digitAt (n k : Nat) : Byte :=
  BitVec.ofNat 8 (n / 256 ^ k)

theorem digitAt_zero : digitAt n 0 = BitVec.ofNat 8 n := by
  rw [digitAt, Nat.pow_zero, Nat.div_one]

theorem byte1_eq : byte1 n = [digitAt n 0] := by
  rw [digitAt_zero, byte1]

theorem byte2_eq : byte2 n = [digitAt n 1, digitAt n 0] := by
  rw [digitAt_zero, digitAt, Nat.pow_one, byte2]

theorem byte4_eq : byte4 n = [digitAt n 3, digitAt n 2, digitAt n 1, digitAt n 0] := by
  have h3 : digitAt (n / 65536) 1 = digitAt n 3 := by
    rw [digitAt, digitAt, Nat.div_div_eq_div_mul]
    rfl
  have h2 : digitAt (n / 65536) 0 = digitAt n 2 := by
    rw [digitAt, digitAt, Nat.div_div_eq_div_mul]
    rfl
  rw [byte4, byte2_eq, byte2_eq, h3, h2]
  rfl

theorem stampBytes_eq {time : Option Stamp} : stampBytes time =
    [digitAt ((time.map Stamp.week).getD 0) 1, digitAt ((time.map Stamp.week).getD 0) 0,
      digitAt ((time.map Stamp.minute).getD 65535) 1, digitAt ((time.map Stamp.minute).getD 65535) 0] := by
  cases time with
  | none => rw [stampBytes, byte2_eq, byte2_eq]; rfl
  | some v => rw [stampBytes, byte2_eq, byte2_eq]; rfl

/-! ## Layouts -/

theorem logRecordBytes_eq {r : LogRecord} : logRecordBytes r =
    [digitAt r.sequence 3, digitAt r.sequence 2, digitAt r.sequence 1, digitAt r.sequence 0,
      digitAt ((r.time.map Stamp.week).getD 0) 1, digitAt ((r.time.map Stamp.week).getD 0) 0,
      digitAt ((r.time.map Stamp.minute).getD 65535) 1, digitAt ((r.time.map Stamp.minute).getD 65535) 0,
      digitAt r.card 3, digitAt r.card 2, digitAt r.card 1, digitAt r.card 0, digitAt r.household 1,
      digitAt r.household 0, digitAt r.container.val 0, digitAt (fractionCode r.fraction).val 0,
      digitAt (outcomeCode r.outcome) 0, digitAt r.applied 0, digitAt (r.after.getD 255) 0] := by
  simp only [logRecordBytes, byte4_eq, byte2_eq, byte1_eq, stampBytes_eq, List.cons_append, List.nil_append]

theorem historyEntryBytes_eq {e : HistoryEntry} : historyEntryBytes e =
    [digitAt e.number 1, digitAt e.number 0, digitAt e.label 1, digitAt e.label 0, digitAt e.container.val 0,
      digitAt (originCode e.origin) 0, digitAt (orderOutcomeCode e.outcome) 0,
      digitAt (if e.mark = true then 1 else 0) 0, digitAt (causeCode e.cause) 0,
      digitAt (e.mass.getD 0) 1, digitAt (e.mass.getD 0) 0, digitAt (e.vehicle.getD 0) 1, digitAt (e.vehicle.getD 0) 0,
      digitAt ((e.time.map Stamp.week).getD 0) 1, digitAt ((e.time.map Stamp.week).getD 0) 0,
      digitAt ((e.time.map Stamp.minute).getD 65535) 1, digitAt ((e.time.map Stamp.minute).getD 65535) 0,
      digitAt e.attempts 0] := by
  simp only [historyEntryBytes, byte2_eq, byte1_eq, stampBytes_eq, List.cons_append, List.nil_append]

theorem toList_eq_map {α : Type} {m : Nat} (v : Vector α m) : v.toList = (List.finRange m).map fun i => v[i] := by
  refine List.ext_getElem (by simp) fun i h₁ h₂ => ?_
  simp

theorem settingsBytes_eq {v : Settings} : settingsBytes v =
    [digitAt v.period 0, digitAt v.rollover 1, digitAt v.rollover 0] ++
    ((List.finRange 5).flatMap fun i => [digitAt v.curfew[i].start 1, digitAt v.curfew[i].start 0,
      digitAt v.curfew[i].stop 1, digitAt v.curfew[i].stop 0]) ++
    ((List.finRange 16).map fun i => digitAt v.plans[i] 0) ++
    [digitAt v.nLost 0, digitAt v.tInact 1, digitAt v.tInact 0, digitAt v.tOw 0, digitAt v.tDep 0, digitAt v.tCl 0,
      digitAt v.tQ 0, digitAt v.tDock 1, digitAt v.tDock 0] := by
  simp only [settingsBytes, byte2_eq, byte1_eq, toList_eq_map, List.flatMap_map, List.cons_append, List.nil_append,
    List.append_assoc, ← List.map_eq_flatMap]

theorem length_settingsBytes {v : Settings} : (settingsBytes v).length = 48 := by
  rw [settingsBytes_eq]
  simp

/-- The attention word: the items in the order of their bits, the other bits 0 (R203). -/
theorem attentionWord_eq {v : BitVec 10} : attentionWord v = [digitAt v.toNat 1, digitAt v.toNat 0] :=
  byte2_eq

theorem getLsbD_digitAt {v : BitVec 10} {i : Nat} (hi : i < 8) :
    (digitAt v.toNat k).getLsbD i = v.getLsbD (i + 8 * k) := by
  have hpow : 256 ^ k = 2 ^ (8 * k) := by rw [Nat.pow_mul]
  rw [digitAt, BitVec.getLsbD_ofNat, hpow, ← Nat.shiftRight_eq_div_pow, Nat.testBit_shiftRight, Nat.add_comm (8 * k)]
  simp [hi, BitVec.getLsbD]

theorem toNat_statusByte {st : Status} : (digitAt (statusCode st) 0).toNat = statusCode st := by
  rw [digitAt_zero, BitVec.toNat_ofNat]
  cases st <;> rfl

theorem statusCode_lt {st : Status} : statusCode st < 9 := by
  cases st <;> decide

theorem responseBytes_eq {r : Response} : responseBytes r =
    digitAt (statusCode r.status) 0 :: digitAt (dataBytes r.data).length 1 :: digitAt (dataBytes r.data).length 0 ::
      dataBytes r.data := by
  rw [responseBytes, byte1_eq, byte2_eq]
  rfl

/-- Two bytes hold a number up to 65535. -/
theorem toNat_digitAt_two (h : n ≤ 65535) : (digitAt n 1).toNat * 256 + (digitAt n 0).toNat = n := by
  rw [digitAt_zero, digitAt, Nat.pow_one, BitVec.toNat_ofNat, BitVec.toNat_ofNat]
  omega

/-! ## Frames -/

theorem readFrame_discarded {code len : Byte} {rest : List Byte} (h : rest.length < len.toNat) :
    readFrame (code :: len :: rest) = .discarded :=
  if_neg (Nat.not_le.2 h)

theorem readFrame_command {code len : Byte} {l rest : List Byte} (h : l.length = len.toNat) :
    readFrame (code :: len :: (l ++ rest)) = .command (commandOf code len l) := by
  have hlen : len.toNat ≤ (l ++ rest).length := by rw [List.length_append]; omega
  have htake : (l ++ rest).take len.toNat = l := by rw [← h, List.take_left]
  refine (if_pos hlen).trans ?_
  rw [htake]

theorem returnedByte_waiting {position given : Nat} (h : p.frame = .waiting) :
    returnedByte p n position given = some (if position ≤ n + 2 then 0#8 else 255#8) := by
  rw [returnedByte, h]
  dsimp only
  by_cases hp : position ≤ n + 2
  · rw [if_pos hp, if_pos (by omega)]
  · rw [if_neg hp, if_neg (by omega)]
    rfl

theorem returnedByte_responding {position given : Nat} {r : Response} (h : p.frame = .responding r) :
    returnedByte p n position given = some (if position ≤ n + 2 then 0#8
      else if h : given < (responseBytes r).length then (responseBytes r)[given] else 0#8) := by
  rw [returnedByte, h]
  dsimp only
  by_cases hp : position ≤ n + 2
  · rw [if_pos hp, if_pos (by omega)]
  · rw [if_neg hp, if_neg (by omega)]
    refine congrArg some ?_
    split
    next hg => exact List.getD_eq_getElem _ _ hg
    next hg => exact List.getD_eq_default _ _ (Nat.le_of_not_lt hg)

theorem endFrame_eq {lengthComplete : Bool} : endFrame lengthComplete p = { p with
    frame := .none
    discarded := if p.frame = .begun ∧ lengthComplete = true then true else p.discarded } := by
  unfold endFrame
  cases h : p.frame with
  | none =>
    rw [if_neg fun hb => by cases hb.1]
    exact congrArg (fun f => { p with frame := f }) h
  | begun => cases lengthComplete <;> simp
  | waiting => simp
  | responding r => simp

/-- Settles O5: frames read, bytes returned, the layouts, and the two events of a frame. -/
theorem framesEndAndCommandsComplete : Obligations.FramesEndAndCommandsComplete := by
  unfold Obligations.FramesEndAndCommandsComplete
  intro byte week minute
  refine ⟨fun code len => ⟨rfl, rfl, fun rest => readFrame_discarded, fun p rest => readFrame_command⟩,
    fun p n position given => ⟨fun h => by rw [returnedByte, h], fun h => by rw [returnedByte, h],
      returnedByte_waiting, fun r => returnedByte_responding⟩,
    fun r => ⟨_, _, _, responseBytes_eq, ?_, ?_, toNat_digitAt_two⟩, fun items mask level => ?_,
    fun v => ⟨attentionWord_eq, attentionWord_eq⟩, fun v => ⟨settingsBytes_eq, length_settingsBytes⟩,
    fun r => logRecordBytes_eq.trans ?_, fun e => historyEntryBytes_eq.trans ?_, fun _ _ _ _ => ⟨_, rfl⟩,
    fun _ _ _ => ⟨_, rfl⟩, fun s => ⟨fun lengthComplete => ?_, fun r h => ?_, fun h => ?_⟩⟩
  · rw [toNat_statusByte]
    cases r.status <;> rfl
  · intro h
    have h9 := statusCode_lt (st := r.status)
    rw [← toNat_statusByte, h] at h9
    exact absurd h9 (by decide)
  · refine ⟨digitAt items.toNat 1, digitAt items.toNat 0, attentionWord mask ++ Config.unstatedBytes AttentionLevel level,
      ?_, fun i => getLsbD_digitAt i.isLt, fun i => ?_⟩
    · rw [dataBytes, attentionWord_eq]
      rfl
    · rw [getLsbD_digitAt i.isLt]
      by_cases hi : i.val < 2
      · simp [hi]
      · rw [BitVec.getLsbD_of_ge _ _ (by omega)]
        simp [hi]
  · cases r.fraction <;> cases r.outcome <;> rfl
  · cases e.origin <;> cases e.outcome <;> rcases e.cause with _ | _ | _ <;> rfl
  · exact congrArg (fun p => Host.Outcome.next { s with port := p }) endFrame_eq
  · refine congrArg (fun p => Host.Outcome.next { s with port := p }) ?_
    rw [completeCommand, h]
    dsimp only
    simp only [List.isEmpty_iff]
  · refine congrArg (fun p => Host.Outcome.next { s with port := p }) ?_
    rw [completeCommand, h]

end Sys2Proof.Machine
end

section
/-! The catalogue of commands, their bytes, and how a command is taken and waits (R189 to R192, R200). -/

namespace Sys2Proof.Machine

open Sys2Proof

variable {s t : State} {c d : Box} {n k : Nat} {code len : Byte} {i : Instr} {l : List Byte}

/-! ## The catalogue -/

theorem commandOf_known (h : code.toNat ≤ 35) : commandCode (commandOf code len l) = some code.toNat ∧
    lengthByte (commandOf code len l) = len ∧ commandLength (commandOf code len l) ≠ none := by
  unfold commandOf
  generalize code.toNat = m at h
  interval_cases m <;> exact ⟨rfl, rfl, Option.some_ne_none _⟩

theorem commandOf_unknown (h : 36 ≤ code.toNat) : commandOf code len l = .unknownCommand len code := by
  obtain ⟨m, hm⟩ := Nat.exists_eq_add_of_le' h
  unfold commandOf
  rw [hm]
  rfl

/-- The code byte of a command. -/
def codeByte (i : Instr) : Byte :=
  BitVec.ofNat 8 ((commandCode i).getD 0)

theorem commandCode_eq_codeByte (h : commandLength i = some n) : commandCode i = some (codeByte i).toNat := by
  cases i <;> cases h <;> rfl

/-- The parameter bytes of a command, as many as its length says. -/
theorem length_parameterBytes (h : commandLength i = some n) : (parameterBytes i).length = n := by
  cases i with
  | writeDistrictSettings len v =>
    cases h
    exact length_districtParamsBytes
  | _ => cases h <;> rfl

/-- The bytes of a command spell it (R189, R200). -/
theorem commandOf_parameterBytes (h : commandLength i = some n) :
    commandOf (codeByte i) (lengthByte i) (parameterBytes i) = i := by
  cases i with
  | writeDistrictSettings len v => exact congrArg (Instr.writeDistrictSettings len) districtParamsAt_districtParamsBytes
  | writeContainerConfig len c v =>
    exact congrArg (Instr.writeContainerConfig len c) containerParamsAt_containerParamsBytes
  | setClock len minute week => exact congrArg₂ (Instr.setClock len) half_of_bytes half_of_bytes
  | insertCard len card v =>
    exact congrArg₂ (Instr.insertCard len) quadAt_quadBytes cardParamsAt_cardParamsBytes
  | updateCard len card v =>
    exact congrArg₂ (Instr.updateCard len) quadAt_quadBytes cardParamsAt_cardParamsBytes
  | removeCard len card => exact congrArg (Instr.removeCard len) (quadAt_quadBytes (rest := []))
  | readCard len card mode => exact congrArg (fun q => Instr.readCard len q mode) quadAt_quadBytes
  | resetEstimate len c v => exact congrArg (Instr.resetEstimate len c) half_of_bytes
  | adjustEstimate len c v => exact congrArg (Instr.adjustEstimate len c) half_of_bytes
  | postOrder len c priority label oneShot =>
    exact congrArg (fun v => Instr.postOrder len c priority v oneShot) half_of_bytes
  | abortOrder len number => exact congrArg (Instr.abortOrder len) half_of_bytes
  | clearAttention len requests => exact congrArg (Instr.clearAttention len) half_of_bytes
  | maskAttention len enables => exact congrArg (Instr.maskAttention len) half_of_bytes
  | _ => cases h <;> rfl

/-! ## The checks that open a command -/

/-- Every command of the catalogue opens with the check of its length byte (R191). -/
theorem exists_withLength (h : commandLength i = some n) : ∃ carry : State → Carried,
    carryOut i = withLength (lengthByte i) n carry := by
  cases i <;> cases h <;> exact ⟨_, rfl⟩

/-- A command of one container checks the number next (R192). -/
theorem exists_withBox {b : Byte} (h : commandLength i = some n) (hb : containerByte i = some b) :
    ∃ carry : Box → State → Carried, carryOut i = withLength (lengthByte i) n (withBox b carry) := by
  cases i <;> cases hb <;> cases h <;> exact ⟨_, rfl⟩

theorem isPortCommand_of_commandLength (h : commandLength i = some n) : isPortCommand i = true := by
  cases i <;> cases h <;> rfl

/-! ## Taking and waiting -/

theorem portFree_eq_false (h : ¬ s.portIsFree) : portFree s.port = false := by
  rw [← Bool.not_eq_true, portFree_iff]
  exact h

/-- Behind another command a command waits, with the figures of its taking (R190). -/
theorem exec_of_busy (hi : isPortCommand i = true) (h : ¬ s.portIsFree) : exec i s = .next { s with port := { s.port with
    discarded := false, frame := .waiting, waiting := s.port.waiting ++ [⟨i, figuresAtTaking i s⟩] } } := by
  rw [exec_of_isPortCommand hi, takeCommand_busy (portFree_eq_false h)]

theorem figuresAtTaking_eq_none (h : ∀ len c : Byte, i ≠ .readContainerStatus len c) : figuresAtTaking i s = none := by
  cases i with
  | readContainerStatus len c => exact absurd rfl (h len c)
  | _ => rfl

theorem fillFigures_eq {b : Bay} : fillFigures b =
    { mode := b.est.mode, closeFlag := b.est.closeFlag
      effFill := if b.est.mode = .doubtful then max b.est.fill (b.est.mLast.getD 0) else b.est.fill
      effPercent := (if b.est.mode = .doubtful then max b.est.fill (b.est.mLast.getD 0) else b.est.fill) * 100 /
        b.record.config.capacity
      tOrderL := b.record.config.tOrder * b.record.config.capacity / 100
      tCloseL := b.record.config.tClose * b.record.config.capacity / 100
      tReopenL := b.record.config.tReopen * b.record.config.capacity / 100 } := by
  rw [fillFigures, effPercent, effFill_eq]
  rfl

theorem figuresAtTaking_status {b : Byte} : figuresAtTaking (.readContainerStatus len b) s =
    if h : b.toNat < 32 then some (fillFigures (s.bay ⟨b.toNat, h⟩)) else none := by
  rw [figuresAtTaking, boxOf]
  split <;> rfl

theorem startQueued_eq {w : Waiting} {rest : List Waiting} (hc : s.port.carrying = none) (hw : s.port.waiting = w :: rest) :
    startQueued s = carryNow (carryWaiting w) { s with port := { s.port with waiting := rest } } := by
  rw [startQueued, hc, hw]

/-- The figures of the taking in the response of a Read Container Status that waited (R133, R143). -/
theorem withFigures_eq {r : Response} {figures : Option FillFigures} : r.withFigures figures =
    match figures, r.data with
    | some f, .containerStatus v =>
      { r with data := .containerStatus { v with
          est := { v.est with mode := f.mode, closeFlag := f.closeFlag }
          effFill := f.effFill, effPercent := f.effPercent
          tOrderL := f.tOrderL, tCloseL := f.tCloseL, tReopenL := f.tReopenL } }
    | _, _ => r := by
  obtain ⟨status, data⟩ := r
  cases figures with
  | none => rfl
  | some f => cases data <;> rfl

/-- Settles O6: the catalogue, the bytes of a command, and the taking, waiting and carrying out of one. -/
theorem commandsAreTakenAndWait : Obligations.CommandsAreTakenAndWait := by
  unfold Obligations.CommandsAreTakenAndWait
  refine ⟨rfl, fun code len p => ⟨commandOf_known, commandOf_unknown⟩, fun i n rest h hlen => ?_,
    fun i s hi hs hstatus => ?_, fun len n s hs => ?_, fun i s hi hs => ?_, fun s i figures rest hc hw => ?_,
    fun s c => ?_, fun s h => ?_, fun i n s hs h hlen => ?_, fun i n b s hs h hlen hb hge => ?_⟩
  · refine ⟨length_parameterBytes h, codeByte i, commandCode_eq_codeByte h, ?_⟩
    rw [readFrame_command ((length_parameterBytes h).trans hlen.symm), commandOf_parameterBytes h]
  · rw [exec_of_busy hi hs, figuresAtTaking_eq_none hstatus]
  · intro figures
    have hfigures (b : Bay) : fillFigures b = figures b := fillFigures_eq
    rw [exec_of_busy rfl hs, figuresAtTaking_status]
    simp only [hfigures]
  · exact exec_of_portIsFree hi hs
  · intro u now
    refine congrArg Host.Outcome.next ((startQueued_eq hc hw).trans ?_)
    exact congrArg (fun r => ({ (carryOut i u).state with port := { (carryOut i u).state.port with
      carrying := some r } } : State)) withFigures_eq
  · rw [carryOut, carryReadContainerStatus, withLength_eq (len := 1) (n := 1) rfl, byteOf, withBox_some boxOf_ofNat]
    rfl
  · refine congrArg Host.Outcome.next ?_
    obtain ⟨w, rest, hc, hw, -⟩ | ⟨-, hsame⟩ := startQueued_cases (s := s)
    · rcases h with h | h
      · exact absurd hc h
      · rw [hw] at h
        cases h
    · exact hsame
  · obtain ⟨carry, hcarry⟩ := exists_withLength h
    refine exec_eq_answered (isPortCommand_of_commandLength h) hs ?_
    rw [hcarry, withLength_ne hlen, refuse]
  · obtain ⟨carry, hcarry⟩ := exists_withBox h hb
    refine exec_eq_answered (isPortCommand_of_commandLength h) hs ?_
    rw [hcarry, withLength_eq hlen, withBox_none (boxOf_of_ge hge), refuse]

end Sys2Proof.Machine
end
